-- ==== Sys2Proof/Word.lean ====
section
/-! DEFINITION. The words of the TihonGit CORE (spec/00_scope.md R11, R13): only the widths, each an abbreviation of
`BitVec`, so that the library's lemmas apply. Bit 0 is the least significant bit (R13). -/

namespace Sys2Proof

/-- One byte of the receive stream (30_encoding.md R103). -/
abbrev Byte := BitVec 8

/-- One host register word (20_memory.md R70, R74). -/
abbrev Word := BitVec 32

/-- A host register address, a word index 0x00–0xFF (20_memory.md R70, R73). -/
abbrev Addr := BitVec 8

/-- A time or timestamp in microseconds (00_scope.md R11, 10_state.md R31). -/
abbrev Time := BitVec 64

/-- One host bus transaction, `{W, A[7:0], D[31:0]}` (30_encoding.md R99). -/
abbrev BusWord := BitVec 41

end Sys2Proof
end

