-- ==== Sys2Proof/Config.lean ====
section
/-! DEFINITION. What an implementation fixes and the state does not hold (spec/10_state.md R56): the constants of
spec/00_scope.md R9, the OPEN parameters of R10, and the polarity vector of spec/44_step.md R185. -/

namespace Sys2Proof

namespace Config

/-- `FRAME_LEN`, bytes per frame (00_scope.md R9). -/
def frameLen : Nat := 32
/-- `HDR0` (R9). -/
def hdr0 : Byte := 0x20
/-- `HDR1` (R9). -/
def hdr1 : Byte := 0x40
/-- `CK_SPAN`, the bytes summed by the checksum, indices 0..29 (R9). -/
def ckSpan : Nat := 30
/-- `SIG_MIN`, the `signalOk` threshold on channel 6 (R9). -/
def sigMin : Nat := 800
/-- `CH_CENTER`, steering and throttle centre (R9). -/
def chCenter : Int := 1500
/-- `CH_SPAN_HALF`, steering and throttle divisor (R9). -/
def chSpanHalf : Int := 500
/-- `BRK_BASE`, brake offset (R9). -/
def brkBase : Int := 1000
/-- `BRK_SPAN`, brake divisor (R9). -/
def brkSpan : Int := 1000
/-- `TX_LO`, lower bound of the transmission dead zone (R9). -/
def txLo : Nat := 1200
/-- `TX_HI`, upper bound of the transmission dead zone (R9). -/
def txHi : Nat := 1800
/-- `SEC_PER_MIN` (R9). -/
def secPerMin : Nat := 60
/-- `READ_TIMEOUT_MAX_US` (R9): a duty of the platform that no rule of the model reads (70_reset_and_hazards.md R316;
log 18). -/
def readTimeoutMaxUs : Nat := 10000
/-- The numerator `6 × 10^13` of the step interval: `SEC_PER_MIN` minutes-to-seconds, times 10^6 for microseconds,
times 10^6 for the velocity unit of 10^-6 rpm (43_profile.md R168). -/
def intervalNumerator : Nat := secPerMin * 1000000000000
/-- The velocity units in one rpm (10_state.md R40). -/
def urpmPerRpm : Nat := 1000000
/-- The identification word, "THG1" (10_state.md R52). -/
def idWord : Word := 0x54484731

end Config

/-- The OPEN parameters of 00_scope.md R10. Each field's type holds exactly the values R10's constraint admits (a
parameter whose least value is 1 or 32 is stored less that value), so that a parameter set the spec refuses (R20)
cannot be built (log 11). -/
structure Params where
  /-- `DEAD_BAND` − 1, with 1 ≤ `DEAD_BAND` ≤ 2^31−1. -/
  deadBandLess1 : Fin 2147483647
  /-- `MIN_STEP_INTERVAL_US` − 1, with 1 ≤ `MIN_STEP_INTERVAL_US` ≤ 2^48−1. -/
  minStepIntervalLess1 : Fin 281474976710655
  /-- `PPR` − 1, with 1 ≤ `PPR` ≤ 2^16−1. -/
  pprLess1 : Fin 65535
  /-- `PULSE_WIDTH_US` − 1, with 1 ≤ `PULSE_WIDTH_US` ≤ 2^16−1. -/
  pulseWidthLess1 : Fin 65535
  /-- `DIR_SETUP_US`, 0 to 2^16−1. -/
  dirSetupUs : BitVec 16
  /-- `STEER_SPEED_MAX`, 0 to 65535. -/
  steerSpeedMax : BitVec 16
  /-- `RXBUF_DEPTH` − 32, with 32 ≤ `RXBUF_DEPTH` ≤ 65535. -/
  rxbufDepthLess32 : Fin 65504
  /-- `CAL_STEP_BUDGET`, 0 to 2^32−1. -/
  calStepBudget : BitVec 32
  /-- `CAL_BACKOFF_STEPS`, 0 to 2^32−1. -/
  calBackoffSteps : BitVec 32
  /-- `CAL_DEBOUNCE_US`, 0 to 2^32−1. -/
  calDebounceUs : BitVec 32
  /-- `CAL_STEP_PERIOD_US`, 0 to 2^32−1. -/
  calStepPeriodUs : BitVec 32
  deriving DecidableEq, Repr, Inhabited

/-- `DEAD_BAND` in pulses (00_scope.md R10). -/
def Params.deadBand (P : Params) : Nat := P.deadBandLess1.val + 1
/-- `MIN_STEP_INTERVAL_US` (R10). -/
def Params.minStepIntervalUs (P : Params) : Nat := P.minStepIntervalLess1.val + 1
/-- `PPR`, pulses per revolution, one for all axes (R10, decision D41). -/
def Params.ppr (P : Params) : Nat := P.pprLess1.val + 1
/-- `PULSE_WIDTH_US` (R10). -/
def Params.pulseWidthUs (P : Params) : Nat := P.pulseWidthLess1.val + 1
/-- `RXBUF_DEPTH` in bytes (R10). -/
def Params.rxbufDepth (P : Params) : Nat := P.rxbufDepthLess32.val + 32

/-- The block's parameter set. DESIGN CHOICE (log 11), safe: the spec leaves every value open (00_scope.md R10), so this
constant has no body and nothing can be proved of it but what holds of every lawful set. -/
opaque Config.params : Params

/-- The free value of the limit switches: the levels (sw1, sw2) that the nth held TICK samples when it is admitted. The levels
are "free inputs of the events that sample them" and the block keeps no copy of them (10_state.md R56), so this constant has
no body. DESIGN CHOICE (log 4), safe: nothing can be proved of it but what holds of every sequence of levels. -/
opaque Config.switchLevels : Nat → Bool × Bool

end Sys2Proof
end

