-- ==== Sys2Proof/Syntax.lean ====
section
/-! DEFINITION. The syntax of the TihonGit CORE: the raw inputs its ports take (spec/30_encoding.md R92), and `Instr`, one
constructor for each row of spec/opcode_table.json. -/

namespace Sys2Proof

/-- The four axes, fixed (00_scope.md R12): axis 0, 1, 2, 3 in this order. -/
inductive Axis where
  | steering
  | throttle
  | brake
  | transmission
  deriving DecidableEq, Repr

/-- The format column of spec/opcode_table.json (30_encoding.md R92, R110; a CMD word is the data of a BUS write). -/
inductive Format where
  | bus
  | wire
  | port
  | internal
  deriving DecidableEq, Repr

/-- A raw input at one of the block's ports, before decoding. Numbers are unbounded here, so that the values R20 and R103
refuse can be offered and are refused by name. The level `link` is the transport-present input during the
transaction; only a START samples it (30_encoding.md R103; log 7). -/
inductive Input where
  /-- A host bus transaction (R99) with the level of `link_ok` during it (1 = present). -/
  | bus (t : BusWord) (link : Nat)
  /-- A unit of the WIRE format (R93): the bytes of one frame in wire order. -/
  | wire (bytes : List Byte)
  /-- One received serial byte (R103). -/
  | rxByte (b : Nat)
  /-- The iteration strobe with the levels of the limit switches of axes 1 and 2 (R103). -/
  | tick (sw1 sw2 : Nat)
  /-- `n` microseconds pass (R103). -/
  | advance (n : Nat)
  /-- The platform's reset (R103). -/
  | reset
  deriving DecidableEq, Repr

/-- Why a raw input is no event of the block: "Values outside these ranges are refused" (30_encoding.md R103, 00_scope.md
R20). -/
inductive DecodeError where
  /-- An `RX_BYTE` value outside 0..255. -/
  | byteOutOfRange
  /-- `ADVANCE(0)`, or an advance beyond 2^64−1. -/
  | advanceOutOfRange
  /-- A switch or link level other than 0 and 1. -/
  | levelOutOfRange
  /-- A wire unit that is not 32 bytes beginning with the header 0x20, 0x40 (R93, R94; the table's match and mask). -/
  | notAFrameWindow
  deriving DecidableEq, Repr

/-- The operations of the block, one constructor for each row of spec/opcode_table.json. A level operand is a `Bool`, true
for 1. -/
inductive Instr where
  /-- REG_READ(A), 47_host_interface.md R250. -/
  | regRead (addr : Addr)
  /-- REG_WRITE(A, D), R251. `linkOk` is the level of `link_ok` during the write; a START alone samples it (log 7). -/
  | regWrite (addr : Addr) (data : Word) (linkOk : Bool)
  /-- NOP, command 0x00, R254. -/
  | nop
  /-- COMMIT, command 0x01, R257. -/
  | commit
  /-- ENTER_SAFE_MODE, command 0x02, R255. -/
  | enterSafeModeCmd
  /-- START_CALIBRATION, command 0x03, R258. -/
  | startCalibration
  /-- CLEAR_STICKY, command 0x04, R259. -/
  | clearSticky
  /-- START, command 0x05, R260, with the sampled level `link_ok`. -/
  | start (linkOk : Bool)
  /-- SHUTDOWN, command 0x06, R261. -/
  | shutdown
  /-- A reserved command opcode 0x07–0xFF, R263. -/
  | reservedCmd (opc : BitVec 8)
  /-- FRAME, a 32-byte unit of the WIRE format, 30_encoding.md R93–R98, R111: channels, pad bytes 22–29, checksum. -/
  | frame (ch : Vector (BitVec 16) 10) (pad : Vector Byte 8) (ck : BitVec 16)
  /-- RX_BYTE(b), 40_framer.md R122. -/
  | rxByte (b : Byte)
  /-- TICK(sw1, sw2), 46_control_loop.md R228. -/
  | tick (sw1 sw2 : Bool)
  /-- ADVANCE(n), 46_control_loop.md R227. -/
  | advance (n : Time)
  /-- RESET, 70_reset_and_hazards.md R302. -/
  | reset
  /-- PARSE, tick stage 1, 40_framer.md R124. -/
  | parse
  /-- FAILSAFE(frame_ok), tick stage 2, 41_failsafe.md R141. -/
  | failsafe (frameOk : Bool)
  /-- MIX, tick stage 3, 42_mixer.md R150. -/
  | mix
  /-- CAL_STEP(sw1, sw2), tick stage 4, 45_calibration.md R203. -/
  | calStep (sw1 sw2 : Bool)
  /-- PROFILE(a), tick stage 5, 43_profile.md R165. -/
  | profile (a : Axis)
  /-- STEP(a), tick stage 6, 44_step.md R181. -/
  | step (a : Axis)
  /-- EmitPulse(a, d), 44_step.md R190. -/
  | emitPulse (a : Axis) (d : Bool)
  /-- enterSafeMode(), 41_failsafe.md R143. -/
  | enterSafeMode
  deriving DecidableEq, Repr

/-- The format of each row in spec/opcode_table.json. -/
def Instr.format : Instr → Format
  | .regRead _ => .bus
  | .regWrite _ _ _ => .bus
  | .nop => .bus
  | .commit => .bus
  | .enterSafeModeCmd => .bus
  | .startCalibration => .bus
  | .clearSticky => .bus
  | .start _ => .bus
  | .shutdown => .bus
  | .reservedCmd _ => .bus
  | .frame _ _ _ => .wire
  | .rxByte _ => .port
  | .tick _ _ => .port
  | .advance _ => .port
  | .reset => .port
  | .parse => .internal
  | .failsafe _ => .internal
  | .mix => .internal
  | .calStep _ _ => .internal
  | .profile _ => .internal
  | .step _ => .internal
  | .emitPulse _ _ => .internal
  | .enterSafeMode => .internal

/-- The port a raw input comes in by. -/
def Input.format : Input → Format
  | .bus _ _ => .bus
  | .wire _ => .wire
  | .rxByte _ => .port
  | .tick _ _ => .port
  | .advance _ => .port
  | .reset => .port

end Sys2Proof
end

