-- ==== Sys2Proof/Machine/State.lean ====
section
/-! DEFINITION. The architectural state (spec/10_state.md), the reasons a step can stop, and the state after RESET
(spec/70_reset_and_hazards.md R301). State is plain data. The parameters of spec/00_scope.md R10 are not in it, and the block
keeps no copy of a level it has sampled (10_state.md R56); nor is there any memory, program counter or exception register,
which the block does not have (R30, 20_memory.md R70, 60_exceptions.md R276). -/

namespace Sys2Proof.Machine

/-- Why the machine would stop with a fault: for no reason. "No operation of the block raises an exception or takes a trap"
(60_exceptions.md R276), and every input is either executed or refused; the type has no constructor (log 13). -/
inductive Fault where
  deriving DecidableEq, Repr

/-- Why a step has no meaning. Every one is safe: nothing is claimed of what the block does then. -/
inductive Refusal where
  /-- An instruction that has no meaning yet. No arm of `exec` answers it. -/
  | notModelled (mnemonic : String)
  /-- Raised by `step`: the next requested input is outside the ranges of 30_encoding.md R103, which R20 says are refused.
  Safe (log 14). -/
  | badInput (why : DecodeError)
  /-- Raised by the meaning of ADVANCE: "an `ADVANCE(0)` … is refused" (00_scope.md R20). The decoder never gives it. Safe
  (log 14). -/
  | advanceZero
  deriving DecidableEq, Repr

/-- One value for each of the four axes (00_scope.md R12). -/
structure PerAxis (α : Type) where
  steering : α
  throttle : α
  brake : α
  transmission : α
  deriving DecidableEq, Repr

/-- AxisState of one axis (10_state.md R39–R46). -/
structure AxisState where
  /-- `POS[a]`, two's complement pulses (R39). -/
  pos : BitVec 32
  /-- `VEL[a]`, unsigned, units of 10^-6 rpm (R40). -/
  vel : BitVec 40
  /-- `INF[a]`: the step interval is infinite (R42). -/
  inf : Bool
  /-- `IVL[a]`, the step interval in µs (R42). -/
  ivl : BitVec 48
  /-- `TGT[a]`, two's complement pulses (R43). -/
  tgt : BitVec 32
  /-- `LSTEP[a]`, lastStepTimestamp (R44). -/
  lstep : Time
  /-- `LVEL[a]`, lastVelocityUpdateTimestamp (R45). -/
  lvel : Time
  /-- `DIR[a]`, the direction output level (R46). -/
  dir : Bool
  /-- `PSTART[a]`, the rising edge of the most recent step pulse (R46). -/
  pstart : Time
  /-- `PEND[a]`, its falling edge (R46). -/
  pend : Time
  deriving DecidableEq, Repr

/-- The settings of one axis (10_state.md R47). -/
structure AxisSettings where
  /-- rpm. -/
  speed : BitVec 16
  /-- rpm/s. -/
  accel : BitVec 32
  /-- Pulses: the `distance` limit, for the transmission the `reverseLimit`. -/
  limit : BitVec 31
  deriving DecidableEq, Repr

/-- A whole settings record: four axes and the transmission's `forwardLimit` (10_state.md R47, R48). -/
structure Settings where
  axes : PerAxis AxisSettings
  fwd : BitVec 31
  deriving DecidableEq, Repr

/-- `CAL_AXIS` ∈ {1, 2} (10_state.md R50). -/
inductive CalAxis where
  | throttle
  | brake
  deriving DecidableEq, Repr

/-- `CAL_PHASE` (10_state.md R50). DONE is entered and left inside one tick and is never held (45_calibration.md R209). -/
inductive CalPhase where
  | idle
  | seeking
  | backingOff
  deriving DecidableEq, Repr

/-- `CAL_RES[a]` (10_state.md R51). -/
inductive CalRes where
  | notRun
  | ok
  | fail
  | inProgress
  deriving DecidableEq, Repr

/-- The machine's state. -/
structure State where
  /-- `TIME`, the microsecond counter (10_state.md R31). -/
  time : Time
  /-- `RUN`: the control loop is running (R32). -/
  run : Bool
  /-- `CONN_LOST`, the failsafe state (R33). -/
  connLost : Bool
  /-- `FIRST_DONE`: the steering zero pin has happened (R34). -/
  firstDone : Bool
  /-- `RX_OVF`, sticky (R35). -/
  rxOvf : Bool
  /-- `LINK_FAIL`, sticky (R35). -/
  linkFail : Bool
  /-- `BAD_CMD`, sticky (R35). -/
  badCmd : Bool
  /-- `FRAME_CNT` (R36). -/
  frameCnt : BitVec 32
  /-- `DROP_CNT` (R36). -/
  dropCnt : BitVec 32
  /-- `SAFE_CNT` (R36). -/
  safeCnt : BitVec 32
  /-- `RxBuf`, oldest byte first; `RXLEN` is its length (R37). -/
  rxBuf : List Byte
  /-- `CH[0..9]`, the ChannelSet latch (R38). -/
  ch : Vector (BitVec 16) 10
  /-- The AxisState records (R39–R46). -/
  axes : PerAxis AxisState
  /-- The shadow settings (R47). -/
  shadow : Settings
  /-- The active settings (R48). -/
  active : Settings
  /-- `CAL_ACTIVE` (R50). -/
  calActive : Bool
  /-- `CAL_AXIS` (R50). -/
  calAxis : CalAxis
  /-- `CAL_PHASE` (R50). -/
  calPhase : CalPhase
  /-- `CAL_COUNT` (R50). -/
  calCount : BitVec 32
  /-- `CAL_TTRIG` (R50). -/
  calTtrig : Time
  /-- `CAL_LAST` (R50). -/
  calLast : Time
  /-- `CAL_RES[1]` (R51). -/
  calResThrottle : CalRes
  /-- `CAL_RES[2]` (R51). -/
  calResBrake : CalRes
  /-- How many TICK requests are held (46_control_loop.md R229, 70 R302; log 3). No switch level is kept with them
  (10_state.md R56; log 4). -/
  heldTicks : Nat
  /-- The MODEL's own: the events the agents have requested and the block has not yet taken, in trace order (log 1). -/
  inputs : List Input
  /-- The MODEL's own: how many held TICKs have sampled the switches; it numbers the free value `Config.switchLevels`
  (log 4). -/
  switchSamples : Nat
  /-- The MODEL's own: the word the last value-returning operation answered (log 6). -/
  result : Word
  deriving DecidableEq, Repr

/-- An axis after RESET: position, velocity, target, timestamps and outputs 0, the interval infinite (70 R301). -/
def AxisState.reset : AxisState :=
  { pos := 0, vel := 0, inf := true, ivl := 0, tgt := 0, lstep := 0, lvel := 0, dir := false, pstart := 0, pend := 0 }

/-- Settings after RESET, all 0 (70 R301). -/
def Settings.reset : Settings :=
  { axes := ⟨⟨0, 0, 0⟩, ⟨0, 0, 0⟩, ⟨0, 0, 0⟩, ⟨0, 0, 0⟩⟩, fwd := 0 }

/-- The machine right after RESET (70_reset_and_hazards.md R301: "No element is left unspecified at reset"). No event is
requested, no held TICK has sampled the switches and no word has been answered (the model's own fields; log 17). -/
def State.reset : State :=
  { time := 0, run := false, connLost := false, firstDone := false, rxOvf := false, linkFail := false, badCmd := false,
    frameCnt := 0, dropCnt := 0, safeCnt := 0, rxBuf := [], ch := #v[0, 0, 0, 0, 0, 0, 0, 0, 0, 0],
    axes := ⟨AxisState.reset, AxisState.reset, AxisState.reset, AxisState.reset⟩,
    shadow := Settings.reset, active := Settings.reset,
    calActive := false, calAxis := .throttle, calPhase := .idle, calCount := 0, calTtrig := 0, calLast := 0,
    calResThrottle := .notRun, calResBrake := .notRun, heldTicks := 0, inputs := [], switchSamples := 0, result := 0 }

end Sys2Proof.Machine
end

