-- ==== Sys2Proof/Machine/Ops.lean ====
section
/-! DEFINITION. The arithmetic primitives of spec/00_scope.md R14 and the named operations over registers that the stages and
commands share: per-axis access, the receive buffer primitives (20_memory.md R80–R82), the pulse primitive (44_step.md R190)
and safe-mode entry (41_failsafe.md R143), the nearest thing the block has to taking an exception (60_exceptions.md R281). -/

namespace Sys2Proof.Machine

/-- What a meaning answers. -/
abbrev Result := Host.Outcome State Fault Refusal

/-! ### Arithmetic (00_scope.md R14) -/

/-- `trunc_div(a, b)`, the quotient rounded toward zero. -/
def truncDiv (a b : Int) : Int := a.tdiv b

/-- `ceil_div(a, b)`, the smallest q with q·b ≥ a, for b > 0. -/
def ceilDiv (a b : Nat) : Nat := (a + b - 1) / b

/-- `clamp(x, lo, hi)`, for lo ≤ hi. -/
def clamp (x lo hi : Int) : Int := min (max x lo) hi

/-- `sat32(x)` (42_mixer.md R152). -/
def sat32 (x : Int) : Int := clamp x (-2147483648) 2147483647

/-- `(a − b) mod 2^64` on times, in microseconds (R14, 60_exceptions.md R284). -/
def elapsed (now t : Time) : Nat := (now - t).toNat

/-! ### Axes -/

/-- The value of axis `a`. -/
def PerAxis.get {α : Type} (v : PerAxis α) : Axis → α
  | .steering => v.steering
  | .throttle => v.throttle
  | .brake => v.brake
  | .transmission => v.transmission

/-- The same with axis `a` changed by `f`. -/
def PerAxis.upd {α : Type} (v : PerAxis α) (a : Axis) (f : α → α) : PerAxis α :=
  match a with
  | .steering => { v with steering := f v.steering }
  | .throttle => { v with throttle := f v.throttle }
  | .brake => { v with brake := f v.brake }
  | .transmission => { v with transmission := f v.transmission }

/-- The same with every axis changed by `f`. -/
def PerAxis.map {α : Type} (v : PerAxis α) (f : α → α) : PerAxis α :=
  ⟨f v.steering, f v.throttle, f v.brake, f v.transmission⟩

/-- The AxisState of axis `a`. -/
def State.axis (s : State) (a : Axis) : AxisState := s.axes.get a

/-- The state with the AxisState of axis `a` changed by `f`. -/
def State.updAxis (s : State) (a : Axis) (f : AxisState → AxisState) : State := { s with axes := s.axes.upd a f }

/-- The active settings of axis `a` (10_state.md R48). -/
def State.settings (s : State) (a : Axis) : AxisSettings := s.active.axes.get a

/-- `LO[a]` (10_state.md R49). -/
def Settings.lo (c : Settings) (a : Axis) : Int := -((c.axes.get a).limit.toNat : Int)

/-- `HI[a]` (10_state.md R49). -/
def Settings.hi (c : Settings) (a : Axis) : Int :=
  match a with
  | .transmission => (c.fwd.toNat : Int)
  | .steering | .throttle | .brake => ((c.axes.get a).limit.toNat : Int)

/-- `INV[a]`, the polarity vector [0, 1, 1, 0] (44_step.md R185, 10_state.md R56). -/
def polarity : Axis → Bool
  | .steering => false
  | .throttle => true
  | .brake => true
  | .transmission => false

/-- The axis that `CAL_AXIS` names (10_state.md R50). -/
def CalAxis.axis : CalAxis → Axis
  | .throttle => .throttle
  | .brake => .brake

/-- `HELD[a] = CAL_ACTIVE ∧ (CAL_AXIS = a)` (10_state.md R50, 45_calibration.md R202). -/
def State.held (s : State) (a : Axis) : Bool := s.calActive && s.calAxis.axis == a

/-! ### One axis -/

/-- A write of 0 to `VEL[a]`, which makes the interval infinite (10_state.md R42, 44_step.md R184). -/
def AxisState.halt (x : AxisState) : AxisState := { x with vel := 0, inf := true, ivl := 0 }

/-- The velocity-timestamp reference reset to `now` (47_host_interface.md R257, R260; 45_calibration.md R211). -/
def AxisState.restartVelocityTime (now : Time) (x : AxisState) : AxisState := { x with lvel := now }

/-- `TGT[a] <- v` for an exact integer v in the 32-bit range (10_state.md R43). -/
def AxisState.setTarget (v : Int) (x : AxisState) : AxisState := { x with tgt := BitVec.ofInt 32 v }

/-- `EmitPulse(a, d)` on one AxisState at time `now` (44_step.md R190). The times are modulo 2^64 (log 15). -/
def AxisState.emitPulse (P : Params) (now : Time) (d : Bool) (x : AxisState) : AxisState :=
  { x with
    dir := d
    pstart := now + P.dirSetupUs.setWidth 64
    pend := now + P.dirSetupUs.setWidth 64 + BitVec.ofNat 64 P.pulseWidthUs }

/-- A pulse of the axis is in flight: `TIME < PEND[a]` (44_step.md R191). -/
def AxisState.inFlight (now : Time) (x : AxisState) : Bool := decide (now.toNat < x.pend.toNat)

/-- `STEP[a] = (PSTART[a] ≤ TIME) ∧ (TIME < PEND[a])` (10_state.md R46, 44_step.md R191). -/
def AxisState.stepLevel (now : Time) (x : AxisState) : Bool := decide (x.pstart.toNat ≤ now.toNat) && x.inFlight now

/-- `STATUS.PULSE_BUSY`: `TIME < max_a PEND[a]` (10_state.md R53, 46_control_loop.md R229). -/
def State.pulseBusy (s : State) : Bool :=
  s.axes.steering.inFlight s.time || s.axes.throttle.inFlight s.time || s.axes.brake.inFlight s.time ||
    s.axes.transmission.inFlight s.time

/-- `EmitPulse(a, d)` at `now` = TIME (44_step.md R190, 46_control_loop.md R230). -/
def State.emitPulse (s : State) (P : Params) (a : Axis) (d : Bool) : State := s.updAxis a (AxisState.emitPulse P s.time d)

/-! ### The receive buffer (20_memory.md R80–R82) -/

/-- `RxPush(b)` (R80). -/
def State.rxPush (s : State) (b : Byte) : State := { s with rxBuf := s.rxBuf ++ [b] }

/-- `RxPeek(i)` (R81). -/
def State.rxPeek (s : State) (i : Nat) : Byte := s.rxBuf.getD i 0

/-- `RxDrop(n)` (R82). -/
def State.rxDrop (s : State) (n : Nat) : State := { s with rxBuf := s.rxBuf.drop n }

/-! ### Safe-mode entry -/

/-- `enterSafeMode()` (41_failsafe.md R143): steering and throttle targets 0, brake target its full travel limit. It saves
nothing and changes no flag (60_exceptions.md R281); the transmission's target is not written. -/
def enterSafeMode (s : State) : State :=
  { s with
    axes := { s.axes with
      steering := s.axes.steering.setTarget 0
      throttle := s.axes.throttle.setTarget 0
      brake := s.axes.brake.setTarget (s.active.axes.brake.limit.toNat : Int) }
    safeCnt := s.safeCnt + 1 }

/-! ### Calibration results -/

/-- `CAL_RES[a] <- r` (10_state.md R51). -/
def State.setCalRes (s : State) (c : CalAxis) (r : CalRes) : State :=
  match c with
  | .throttle => { s with calResThrottle := r }
  | .brake => { s with calResBrake := r }

/-- `CAL_RES[a]` (10_state.md R51). -/
def State.calRes (s : State) : CalAxis → CalRes
  | .throttle => s.calResThrottle
  | .brake => s.calResBrake

end Sys2Proof.Machine
end

