-- ==== Sys2Proof/Machine/Calibration.lean ====
section
/-! DEFINITION. The Calibration Sequencer (spec/45_calibration.md): CAL_STEP with `CalRelease` and `CalNext`. -/

namespace Sys2Proof.Machine

/-- `CalRelease(a)`: `LVEL[a] <- now` (R211). -/
def calRelease (c : CalAxis) (s : State) : State := s.updAxis c.axis (AxisState.restartVelocityTime s.time)

/-- `CalNext()`: after the throttle the brake seeks; after the brake the sequence is over (R210). -/
def calNext (s : State) : State :=
  match s.calAxis with
  | .throttle => { s with calAxis := .brake, calPhase := .seeking, calCount := 0 }
  | .brake => { s with calActive := false, calPhase := .idle, calCount := 0 }

/-- The axis finishes with result `r`, is released, and the next one follows (R207, R209–R211). -/
def calFinish (r : CalRes) (s : State) : State := calNext (calRelease s.calAxis (s.setCalRes s.calAxis r))

/-- One calibration step with direction level `d`, counted and timed (R203, R215). -/
def calPulse (P : Params) (d : Bool) (s : State) : State :=
  { s.emitPulse P s.calAxis.axis d with calCount := s.calCount + 1, calLast := s.time }

/-- The limit switch of the axis being homed reads triggered, active-low (R214). -/
def triggered (sw1 sw2 : Bool) : CalAxis → Bool
  | .throttle => !sw1
  | .brake => !sw2

/-- `CAL_STEP_PERIOD_US` has passed since the last calibration step (R204, R208). -/
def calStepDue (P : Params) (s : State) : Bool := decide (P.calStepPeriodUs.toNat ≤ elapsed s.time s.calLast)

/-- SEEKING: the switch first, then the budget, then a step toward the switch (R204–R207). -/
def calSeek (P : Params) (sw1 sw2 : Bool) (s : State) : State :=
  if triggered sw1 sw2 s.calAxis then { s with calPhase := .backingOff, calTtrig := s.time, calCount := 0 }
  else if P.calStepBudget.toNat ≤ s.calCount.toNat then calFinish .fail s
  else if calStepDue P s then calPulse P (polarity s.calAxis.axis) s
  else s

/-- DONE: position, target and velocity of the axis 0, the interval infinite (R209). -/
def homeAxis (x : AxisState) : AxisState := { x.halt with pos := 0, tgt := 0 }

/-- BACKING_OFF: the debounce pause, then DONE when the steps are made, else a step away from the switch (R208, R209). -/
def calBackOff (P : Params) (s : State) : State :=
  if elapsed s.time s.calTtrig < P.calDebounceUs.toNat then s
  else if P.calBackoffSteps.toNat ≤ s.calCount.toNat then calFinish .ok (s.updAxis s.calAxis.axis homeAxis)
  else if calStepDue P s then calPulse P (!polarity s.calAxis.axis) s
  else s

/-- CAL_STEP(sw1, sw2) at `now` = TIME (R203). -/
def calStep (P : Params) (sw1 sw2 : Bool) (s : State) : State :=
  if s.calActive then
    match s.calPhase with
    | .idle => s
    | .seeking => calSeek P sw1 sw2 s
    | .backingOff => calBackOff P s
  else s

/-- The meaning of CAL_STEP run by itself (R203; log 10). -/
def execCalStep (sw1 sw2 : Bool) (s : State) : Result := .next (calStep Config.params sw1 sw2 s)

end Sys2Proof.Machine
end

