-- ==== Sys2Proof/Machine/Failsafe.lean ====
section
/-! DEFINITION. The Failsafe Monitor (spec/41_failsafe.md): the FAILSAFE stage and `enterSafeMode()`. -/

namespace Sys2Proof.Machine

/-- `signalOk` of a delivered frame: `CH[6] >= 800`, unsigned (R141). -/
def signalOk (s : State) : Bool := decide (Config.sigMin ≤ s.ch[6].toNat)

/-- FAILSAFE(frame_ok), with the bit `sig_ok` it returns to the tick (R141, R142). -/
def failsafe (frameOk : Bool) (s : State) : State × Bool :=
  if frameOk then
    if signalOk s then ({ s with connLost := false }, true)
    else if s.connLost then (s, false)
    else (enterSafeMode { s with connLost := true }, false)
  else (s, false)

/-- The meaning of FAILSAFE run by itself: the stage, its returned bit in `result` (R141; log 6, 10). -/
def execFailsafe (frameOk : Bool) (s : State) : Result :=
  .next { (failsafe frameOk s).1 with result := (BitVec.ofBool (failsafe frameOk s).2).setWidth 32 }

/-- The meaning of enterSafeMode() (R143). -/
def execEnterSafeMode (s : State) : Result := .next (enterSafeMode s)

end Sys2Proof.Machine
end

