-- ==== Sys2Proof/WellFormed.lean ====
section
/-! DEFINITION. Which terms of `Instr` are instructions of spec/opcode_table.json. Three rows do not admit every operand
value; every other operand value is legal by its type (spec/30_encoding.md R94–R103). -/

namespace Sys2Proof

/-- A write to 0x01 is a command and is written as its own row (47_host_interface.md R251, R252); a reserved opcode is 0x07
or more (30_encoding.md R102); an advance is at least 1 µs (R103). The internal stages are legal with every operand. -/
def Instr.wellFormed : Instr → Bool
  | .regRead _ => true
  | .regWrite addr _ _ => addr != 0x01
  | .nop => true
  | .commit => true
  | .enterSafeModeCmd => true
  | .startCalibration => true
  | .clearSticky => true
  | .start _ => true
  | .shutdown => true
  | .reservedCmd opc => decide (7 ≤ opc.toNat)
  | .frame _ _ _ => true
  | .rxByte _ => true
  | .tick _ _ => true
  | .advance n => n != 0
  | .reset => true
  | .parse => true
  | .failsafe _ => true
  | .mix => true
  | .calStep _ _ => true
  | .profile _ => true
  | .step _ => true
  | .emitPulse _ _ => true
  | .enterSafeMode => true

end Sys2Proof
end

