-- ==== Sys2Proof/Decode.lean ====
section
/-! DEFINITION. Decoding a raw input into an operation, encoding an operation as the input that carries it, and the frame
format's own fields (spec/30_encoding.md). Decoding is total: an input outside R103's ranges is refused by name. -/

namespace Sys2Proof

/-! ### The host bus transaction (R99) -/

/-- `T[40]` = W, 1 for a write (R99). -/
def busIsWrite (t : BusWord) : Bool := t.getLsbD 40

/-- `T[39:32]` = A (R99). -/
def busAddr (t : BusWord) : Addr := t.extractLsb' 32 8

/-- `T[31:0]` = D (R99). -/
def busData (t : BusWord) : Word := t.extractLsb' 0 32

/-- `{W, A[7:0], D[31:0]}` (R99). -/
def busWord (isWrite : Bool) (a : Addr) (d : Word) : BusWord :=
  BitVec.ofNat 41 (isWrite.toNat * 2 ^ 40 + a.toNat * 2 ^ 32 + d.toNat)

/-- `D[7:0]` = OPC, the command opcode; `D[31:8]` selects nothing (R100). -/
def opcodeOf (d : Word) : BitVec 8 := d.extractLsb' 0 8

/-! ### The frame (R93–R98, R111) -/

/-- `B[i]`, the byte at index i of a window (00_scope.md R13). Every use is within the window. -/
def byteAt (w : List Byte) (i : Nat) : Byte := w.getD i 0

/-- A 16-bit little-endian quantity, `lo + 256 × hi` (20_memory.md R71). -/
def le16 (lo hi : Byte) : BitVec 16 := BitVec.ofNat 16 (lo.toNat + 256 * hi.toNat)

/-- The low byte of a 16-bit quantity, first on the wire (20_memory.md R71). -/
def loByte (v : BitVec 16) : Byte := v.extractLsb' 0 8

/-- The high byte of a 16-bit quantity (20_memory.md R71). -/
def hiByte (v : BitVec 16) : Byte := v.extractLsb' 8 8

/-- The header test (R94). -/
def headerMatch (w : List Byte) : Bool := byteAt w 0 == Config.hdr0 && byteAt w 1 == Config.hdr1

/-- `chan(W, k)` (R95). -/
def chan (w : List Byte) (k : Nat) : BitVec 16 := le16 (byteAt w (2 + 2 * k)) (byteAt w (3 + 2 * k))

/-- `rxck(W)`, the received checksum (R95). -/
def rxck (w : List Byte) : BitVec 16 := le16 (byteAt w 30) (byteAt w 31)

/-- The exact sum of bytes (R96). -/
def byteSum (w : List Byte) : Nat := (w.map BitVec.toNat).sum

/-- `ck(W) = (0xFFFF − Σ W[0..29]) & 0xFFFF` (R96). -/
def checksum (w : List Byte) : BitVec 16 := BitVec.ofInt 16 (0xFFFF - (byteSum (w.take Config.ckSpan) : Int))

/-- A window is a valid frame iff its header matches and its checksum is the received one (R97). -/
def frameValid (w : List Byte) : Bool := headerMatch w && checksum w == rxck w

/-- The ten channel values of a window (R95). -/
def channelsOf (w : List Byte) : Vector (BitVec 16) 10 :=
  #v[chan w 0, chan w 1, chan w 2, chan w 3, chan w 4, chan w 5, chan w 6, chan w 7, chan w 8, chan w 9]

/-- The pad bytes 22–29 of a window (R111). -/
def padOf (w : List Byte) : Vector Byte 8 :=
  #v[byteAt w 22, byteAt w 23, byteAt w 24, byteAt w 25, byteAt w 26, byteAt w 27, byteAt w 28, byteAt w 29]

/-- Bytes 0–29 of a frame: header, channels low byte first, pad bytes (R93). -/
def frameBody (ch : Vector (BitVec 16) 10) (pad : Vector Byte 8) : List Byte :=
  Config.hdr0 :: Config.hdr1 ::
    [loByte ch[0], hiByte ch[0], loByte ch[1], hiByte ch[1], loByte ch[2], hiByte ch[2], loByte ch[3], hiByte ch[3],
     loByte ch[4], hiByte ch[4], loByte ch[5], hiByte ch[5], loByte ch[6], hiByte ch[6], loByte ch[7], hiByte ch[7],
     loByte ch[8], hiByte ch[8], loByte ch[9], hiByte ch[9],
     pad[0], pad[1], pad[2], pad[3], pad[4], pad[5], pad[6], pad[7]]

/-- The 32 bytes of a frame in wire order (R93). -/
def frameBytes (ch : Vector (BitVec 16) 10) (pad : Vector Byte 8) (ck : BitVec 16) : List Byte :=
  frameBody ch pad ++ [loByte ck, hiByte ck]

/-- The pad bytes of constructed frames, all 0x00 (R98). -/
def zeroPad : Vector Byte 8 := #v[0, 0, 0, 0, 0, 0, 0, 0]

/-- `enc(c)`, frame construction (R98). -/
def enc (ch : Vector (BitVec 16) 10) : List Byte := frameBytes ch zeroPad (checksum (frameBody ch zeroPad))

/-! ### Decoding -/

/-- A one-bit level; any other number is refused (R103). -/
def decodeLevel : Nat → Except DecodeError Bool
  | 0 => .ok false
  | 1 => .ok true
  | _ + 2 => .error .levelOutOfRange

/-- The command opcode map, complete (R101, R102). -/
def decodeCommand (opc : BitVec 8) (linkOk : Bool) : Instr :=
  match opc.toNat with
  | 0 => .nop
  | 1 => .commit
  | 2 => .enterSafeModeCmd
  | 3 => .startCalibration
  | 4 => .clearSticky
  | 5 => .start linkOk
  | 6 => .shutdown
  | _ + 7 => .reservedCmd opc

/-- A host transaction; every 41-bit word is legal, a write to 0x01 is a command (R99, R100). -/
def decodeBus (t : BusWord) (linkOk : Bool) : Instr :=
  if busIsWrite t then
    if busAddr t = 0x01 then decodeCommand (opcodeOf (busData t)) linkOk
    else .regWrite (busAddr t) (busData t) linkOk
  else .regRead (busAddr t)

/-- A unit of the WIRE format: 32 bytes with the header, the row's match and mask; its checksum is an operand that the parse
stage tests (R93, R97; log 8). -/
def decodeWire (bytes : List Byte) : Except DecodeError Instr :=
  if bytes.length = Config.frameLen ∧ headerMatch bytes = true then
    .ok (.frame (channelsOf bytes) (padOf bytes) (rxck bytes))
  else .error .notAFrameWindow

/-- The operation a raw input stands for, or the reason it stands for none (R99–R103). -/
def decode : Input → Except DecodeError Instr
  | .bus t link =>
    match decodeLevel link with
    | .ok l => .ok (decodeBus t l)
    | .error e => .error e
  | .wire bytes => decodeWire bytes
  | .rxByte b => if b < 256 then .ok (.rxByte (BitVec.ofNat 8 b)) else .error .byteOutOfRange
  | .tick sw1 sw2 =>
    match decodeLevel sw1, decodeLevel sw2 with
    | .ok a, .ok b => .ok (.tick a b)
    | _, _ => .error .levelOutOfRange
  | .advance n => if 0 < n ∧ n < 2 ^ 64 then .ok (.advance (BitVec.ofNat 64 n)) else .error .advanceOutOfRange
  | .reset => .ok .reset

/-! ### Encoding -/

/-- The bus transaction of a command: a write to 0x01 with the opcode in `D[7:0]` and, as software writes it, 0 above
(R100). -/
def commandInput (opc : BitVec 8) (link : Bool) : Input := .bus (busWord true 0x01 (opc.setWidth 32)) link.toNat

/-- The raw input that carries an operation; the internal stages have none (R99–R103, R110). Ignored bits are written 0. -/
def encode : Instr → Option Input
  | .regRead addr => some (.bus (busWord false addr 0) 0)
  | .regWrite addr data linkOk => some (.bus (busWord true addr data) linkOk.toNat)
  | .nop => some (commandInput 0x00 false)
  | .commit => some (commandInput 0x01 false)
  | .enterSafeModeCmd => some (commandInput 0x02 false)
  | .startCalibration => some (commandInput 0x03 false)
  | .clearSticky => some (commandInput 0x04 false)
  | .start linkOk => some (commandInput 0x05 linkOk)
  | .shutdown => some (commandInput 0x06 false)
  | .reservedCmd opc => some (commandInput opc false)
  | .frame ch pad ck => some (.wire (frameBytes ch pad ck))
  | .rxByte b => some (.rxByte b.toNat)
  | .tick sw1 sw2 => some (.tick sw1.toNat sw2.toNat)
  | .advance n => some (.advance n.toNat)
  | .reset => some .reset
  | .parse => none
  | .failsafe _ => none
  | .mix => none
  | .calStep _ _ => none
  | .profile _ => none
  | .step _ => none
  | .emitPulse _ _ => none
  | .enterSafeMode => none

/-! ### The table's numbering -/

/-- Byte i of a FRAME whose bits spec/opcode_table.json numbers as `w`. The row's match 0x2040 puts byte 0 in bits 15:8 and
byte 1 in bits 7:0 ("byte 0 first"); the bytes after the header, which the table does not number, count on from bit 16
(log 9). -/
def tableFrameByte (w i : Nat) : Byte :=
  match i with
  | 0 => BitVec.ofNat 8 (w >>> 8)
  | 1 => BitVec.ofNat 8 w
  | i + 2 => BitVec.ofNat 8 (w >>> (8 * (i + 2)))

/-- The raw input whose bits spec/opcode_table.json numbers as `w`, told apart by the row's length: the BUS rows have 41
bits (48 in whole bytes), FRAME a 16-bit match and 256 bits in all, RX_BYTE 8, TICK 2 (`s` above `t`), ADVANCE 64, RESET
none. The table gives `link_ok` no bit, so its level is 0 (log 9). -/
def tableInput (nbits w : Nat) : Option Input :=
  if 33 ≤ nbits ∧ nbits ≤ 48 then
    if w < 2 ^ 41 then some (.bus (BitVec.ofNat 41 w) 0) else none
  else if nbits = 16 ∨ nbits = 256 then some (.wire ((List.range Config.frameLen).map (tableFrameByte w)))
  else if nbits = 8 then some (.rxByte w)
  else if nbits = 2 then some (.tick (w / 2) (w % 2))
  else if nbits = 64 then some (.advance w)
  else if nbits = 0 then some .reset
  else none

/-- The instruction the decoder reads from the bits `w` of a row of spec/opcode_table.json. -/
def decodeTableWord (nbits w : Nat) : Option Instr :=
  match tableInput nbits w with
  | some e =>
    match decode e with
    | .ok i => some i
    | .error _ => none
  | none => none

end Sys2Proof
end

