-- ==== Sys2Proof/Machine/Framer.lean ====
section
/-! DEFINITION. The Packet Framer/Decoder (spec/40_framer.md): RX_BYTE, PARSE, and a FRAME's arrival on the wire. -/

namespace Sys2Proof.Machine

/-- RX_BYTE(b): discarded while stopped, pushed where there is room, lost with `RX_OVF` where there is none (R122). -/
def rxByte (P : Params) (b : Byte) (s : State) : State :=
  if s.run then
    if s.rxBuf.length < P.rxbufDepth then s.rxPush b else { s with rxOvf := true }
  else s

/-- Several bytes received one after another. -/
def rxBytes (P : Params) (bs : List Byte) (s : State) : State := bs.foldl (fun t b => rxByte P b t) s

/-- The loop of PARSE over the buffer (R124): how many one-byte drops it makes (R125, R126), and whether it ends at a valid
frame (R127) rather than at fewer than 32 bytes (R129). -/
def scan : List Byte → Nat × Bool
  | [] => (0, false)
  | b :: rest =>
    if (b :: rest).length < Config.frameLen then (0, false)
    else if frameValid (b :: rest) then (0, true)
    else ((scan rest).1 + 1, (scan rest).2)

/-- The buffer realigned: the bytes that `scan` found to begin no valid frame are dropped and counted (R125, R126). -/
def realign (s : State) : State :=
  { s.rxDrop (scan s.rxBuf).1 with dropCnt := s.dropCnt + BitVec.ofNat 32 (scan s.rxBuf).1 }

/-- A valid frame at the front delivered: ten channels latched together, 32 bytes dropped, `FRAME_CNT` counted (R127). -/
def deliver (s : State) : State :=
  { s.rxDrop Config.frameLen with ch := channelsOf s.rxBuf, frameCnt := s.frameCnt + 1 }

/-- PARSE, with the bit `frame_ok` it returns to the tick (R120, R124). -/
def parse (s : State) : State × Bool :=
  if (scan s.rxBuf).2 then (deliver (realign s), true) else (realign s, false)

/-- The meaning of RX_BYTE (R122). -/
def execRxByte (b : Byte) (s : State) : Result := .next (rxByte Config.params b s)

/-- The meaning of FRAME: its 32 bytes arrive in wire order, as by 32 RX_BYTE events (30_encoding.md R98, R109; DEDUCED, log
8). -/
def execFrame (ch : Vector (BitVec 16) 10) (pad : Vector Byte 8) (ck : BitVec 16) (s : State) : Result :=
  .next (rxBytes Config.params (frameBytes ch pad ck) s)

/-- The meaning of PARSE run by itself: the stage, its returned bit in `result` (R120, R124; log 6, 10). -/
def execParse (s : State) : Result :=
  .next { (parse s).1 with result := (BitVec.ofBool (parse s).2).setWidth 32 }

end Sys2Proof.Machine
end

