-- ==== Sys2Proof/Machine/Mixer.lean ====
section
/-! DEFINITION. The Channel Mixer (spec/42_mixer.md): MIX, with the one-shot steering zero pin and the four targets. All
arithmetic is exact before one truncation toward zero (R152). -/

namespace Sys2Proof.Machine

/-- The steering target (R153). -/
def steeringTarget (ch0 limit : Nat) : Int :=
  sat32 (truncDiv (((ch0 : Int) - Config.chCenter) * limit) Config.chSpanHalf)

/-- The throttle target, never negative (R154). -/
def throttleTarget (ch1 limit : Nat) : Int :=
  if (ch1 : Int) > Config.chCenter then sat32 (truncDiv (((ch1 : Int) - Config.chCenter) * limit) Config.chSpanHalf)
  else 0

/-- The brake target (R155). -/
def brakeTarget (ch2 limit : Nat) : Int :=
  sat32 (truncDiv (((ch2 : Int) - Config.brkBase) * limit) Config.brkSpan)

/-- The transmission target, neutral in the dead zone [1200, 1800] (R156). -/
def transmissionTarget (ch5 reverse forward : Nat) : Int :=
  if ch5 < Config.txLo then -(reverse : Int) else if ch5 > Config.txHi then (forward : Int) else 0

/-- The one-shot steering zero pin (R151). -/
def steeringPin (s : State) : State :=
  if s.firstDone then s
  else { s with axes := { s.axes with steering := { s.axes.steering with pos := 0 } }, firstDone := true }

/-- The four targets from the channels and the active settings (R150, R157). -/
def mixTargets (s : State) : State :=
  { s with
    axes :=
      { steering := s.axes.steering.setTarget (steeringTarget s.ch[0].toNat s.active.axes.steering.limit.toNat)
        throttle := s.axes.throttle.setTarget (throttleTarget s.ch[1].toNat s.active.axes.throttle.limit.toNat)
        brake := s.axes.brake.setTarget (brakeTarget s.ch[2].toNat s.active.axes.brake.limit.toNat)
        transmission := s.axes.transmission.setTarget
          (transmissionTarget s.ch[5].toNat s.active.axes.transmission.limit.toNat s.active.fwd.toNat) } }

/-- MIX (R150). -/
def mix (s : State) : State := mixTargets (steeringPin s)

/-- The meaning of MIX run by itself (R150; log 10). -/
def execMix (s : State) : Result := .next (mix s)

end Sys2Proof.Machine
end

