-- ==== Sys2Proof/Machine/Profile.lean ====
section
/-! DEFINITION. The Velocity Profile Engine (spec/43_profile.md): PROFILE, the ramp and the step interval. -/

namespace Sys2Proof.Machine

/-- The ramp: `vel` moved toward `target` by at most `step`, all in 10^-6 rpm, exact (R165, R166). -/
def ramp (vel target step : Nat) : Nat :=
  if vel < target then min (vel + step) target
  else if target < vel then max (vel - step) target
  else vel

/-- The step interval in µs of a velocity above 0 (R168). -/
def stepInterval (P : Params) (vel : Nat) : Nat :=
  max P.minStepIntervalUs (ceilDiv Config.intervalNumerator (vel * P.ppr))

/-- The velocity after the ramp (R165): S is the active speed in 10^-6 rpm, the step `AC_ACCEL × dt`. -/
def rampedVelocity (c : AxisSettings) (now : Time) (x : AxisState) : Nat :=
  ramp x.vel.toNat (c.speed.toNat * Config.urpmPerRpm) (c.accel.toNat * elapsed now x.lvel)

/-- An AxisState at velocity `v` (10^-6 rpm), with the step interval that follows from it, updated at time `now` (R165,
R168). -/
def AxisState.setVelocity (P : Params) (v : Nat) (now : Time) (x : AxisState) : AxisState :=
  if 0 < v then
    { x with vel := BitVec.ofNat 40 v, lvel := now, inf := false, ivl := BitVec.ofNat 48 (stepInterval P v) }
  else { x with vel := 0, lvel := now, inf := true, ivl := 0 }

/-- PROFILE on one AxisState with its settings at time `now` (R165). Where the ramp would undershoot 0 it stops at S ≥ 0, so
the subtraction of naturals is exact (R166). -/
def profileAxis (P : Params) (c : AxisSettings) (now : Time) (x : AxisState) : AxisState :=
  x.setVelocity P (rampedVelocity c now x) now

/-- PROFILE(a) at `now` = TIME (R165, 46_control_loop.md R230). -/
def profile (P : Params) (a : Axis) (s : State) : State := s.updAxis a (profileAxis P (s.settings a) s.time)

/-- The meaning of PROFILE run by itself (R165; log 10). -/
def execProfile (a : Axis) (s : State) : Result := .next (profile Config.params a s)

end Sys2Proof.Machine
end

