-- ==== Sys2Proof/Machine/StepPulse.lean ====
section
/-! DEFINITION. The Step Pulse Driver and Axis Motion Controller (spec/44_step.md): STEP and the pulse primitive. -/

namespace Sys2Proof.Machine

/-- The clamped target (R182). -/
def clampedTarget (c : Settings) (a : Axis) (x : AxisState) : Int := clamp x.tgt.toInt (c.lo a) (c.hi a)

/-- `delta`, the exact position error from the clamped target (R183). -/
def positionError (c : Settings) (a : Axis) (x : AxisState) : Int := clampedTarget c a x - x.pos.toInt

/-- The direction level: `(delta > 0) XOR INV[a]` (R185). -/
def directionLevel (a : Axis) (delta : Int) : Bool := decide (0 < delta) ^^ polarity a

/-- A pulse is due: the interval is finite and has passed since the last step (R188). -/
def pulseDue (now : Time) (x : AxisState) : Bool := !x.inf && decide (x.ivl.toNat ≤ elapsed now x.lstep)

/-- STEP outside the dead band, on an AxisState whose target is clamped: the direction, and a pulse where one is due (R185,
R186). -/
def moveAxis (P : Params) (a : Axis) (delta : Int) (now : Time) (x : AxisState) : AxisState :=
  if pulseDue now x then
    { x.emitPulse P now (directionLevel a delta) with pos := x.pos + BitVec.ofInt 32 delta.sign, lstep := now }
  else { x with dir := directionLevel a delta }

/-- STEP on one AxisState at time `now`: clamp, dead band, direction, pulse (R181). -/
def stepAxis (P : Params) (c : Settings) (a : Axis) (now : Time) (x : AxisState) : AxisState :=
  if (positionError c a x).natAbs < P.deadBand then (x.setTarget (clampedTarget c a x)).halt
  else moveAxis P a (positionError c a x) now (x.setTarget (clampedTarget c a x))

/-- STEP(a) at `now` = TIME (R181, 46_control_loop.md R230). -/
def stepStage (P : Params) (a : Axis) (s : State) : State := s.updAxis a (stepAxis P s.active a s.time)

/-- The meaning of STEP run by itself (R181; log 10). -/
def execStep (a : Axis) (s : State) : Result := .next (stepStage Config.params a s)

/-- The meaning of EmitPulse run by itself (R190; log 10). -/
def execEmitPulse (a : Axis) (d : Bool) (s : State) : Result := .next (s.emitPulse Config.params a d)

end Sys2Proof.Machine
end

