-- ==== Sys2Proof/Machine/ControlLoop.lean ====
section
/-! DEFINITION. The Control Loop Driver (spec/46_control_loop.md) — TICK and ADVANCE — and RESET (spec/70_reset_and_hazards.md
R302). -/

namespace Sys2Proof.Machine

/-- PARSE, then FAILSAFE, then MIX where a frame was delivered and its signal is valid (R228, R231). -/
def receiveStages (s : State) : State :=
  let (s₁, frameOk) := parse s
  let (s₂, sigOk) := failsafe frameOk s₁
  if frameOk && sigOk then mix s₂ else s₂

/-- PROFILE(a) immediately followed by STEP(a), for an axis not held (R231, 43_profile.md R172, 44_step.md R193). -/
def axisStages (P : Params) (a : Axis) (s : State) : State :=
  if s.held a then s else stepStage P a (profile P a s)

/-- The four axes in ascending order (R231). -/
def motionStages (P : Params) (s : State) : State :=
  axisStages P .transmission (axisStages P .brake (axisStages P .throttle (axisStages P .steering s)))

/-- An admitted tick (R228). `now` is TIME, which no stage changes (R230). -/
def tick (P : Params) (sw1 sw2 : Bool) (s : State) : State :=
  if s.run then motionStages P (calStep P sw1 sw2 (receiveStages s)) else s

/-- The meaning of TICK: held while a pulse is in flight, whatever `RUN` is, else the tick (R228, R229; log 3, 5). A held
request keeps no switch levels: the switches are sampled at its admission (10_state.md R56; log 4). -/
def execTick (sw1 sw2 : Bool) (s : State) : Result :=
  if s.pulseBusy then .next { s with heldTicks := s.heldTicks + 1 }
  else .next (tick Config.params sw1 sw2 s)

/-- The meaning of ADVANCE: `TIME <- (TIME + n) mod 2^64` and nothing else; `ADVANCE(0)` is refused (R227, 00_scope.md
R20). -/
def execAdvance (n : Time) (s : State) : Result :=
  if n = 0 then .refused .advanceZero else .next { s with time := s.time + n }

/-- The meaning of RESET: every element of R301 takes its reset value and a held TICK is discarded (70_reset_and_hazards.md
R302). The model's own fields stay: the events still to come, the number of the next free switch levels and the last answered
word (log 1, 4, 6). -/
def execReset (s : State) : Result :=
  .next { State.reset with inputs := s.inputs, switchSamples := s.switchSamples, result := s.result }

end Sys2Proof.Machine
end

