-- ==== Sys2Proof/Machine/Operands.lean ====
section
/-! DEFINITION. The operand forms: the host register map (spec/20_memory.md R76, R77) with its address decoding
(30_encoding.md R104), and the fields of a write's data word (10_state.md R47). -/

namespace Sys2Proof.Machine

/-- The read-only registers of one axis block, in address order (20_memory.md R76). -/
inductive AxisReg where
  | position
  | target
  | velLo
  | velHi
  | ivlLo
  | ivlHi
  | lstepLo
  | lstepHi
  | lvelLo
  | lvelHi
  | out
  deriving DecidableEq, Repr

/-- The host registers (20_memory.md R76). -/
inductive Reg where
  | id
  | cmd
  | status
  | rxLevel
  | frameCnt
  | dropCnt
  | safeCnt
  | calStatus
  | timeLo
  | timeHi
  | calCount
  | ch (k : Fin 10)
  | shSpeed (a : Axis)
  | shAccel (a : Axis)
  | shLimit (a : Axis)
  | shFwd
  | acSpeed (a : Axis)
  | acAccel (a : Axis)
  | acLimit (a : Axis)
  | acFwd
  | axis (a : Axis) (r : AxisReg)
  | reserved
  deriving DecidableEq, Repr

/-- The axis of index 0, 1, 2, 3 (00_scope.md R12). -/
def axisOfIndex : Nat → Axis
  | 0 => .steering
  | 1 => .throttle
  | 2 => .brake
  | _ + 3 => .transmission

/-- The index of an axis (R12). -/
def axisIndex : Axis → Nat
  | .steering => 0
  | .throttle => 1
  | .brake => 2
  | .transmission => 3

/-- Addresses 0x00–0x0F (20_memory.md R76). -/
def controlReg : Nat → Reg
  | 0x00 => .id
  | 0x01 => .cmd
  | 0x02 => .status
  | 0x03 => .rxLevel
  | 0x04 => .frameCnt
  | 0x05 => .dropCnt
  | 0x06 => .safeCnt
  | 0x07 => .calStatus
  | 0x08 => .timeLo
  | 0x09 => .timeHi
  | 0x0A => .calCount
  | _ => .reserved

/-- Field `A & 3` of the shadow block (30_encoding.md R104): field 3 exists for the transmission only. -/
def shadowReg (a : Axis) : Nat → Reg
  | 0 => .shSpeed a
  | 1 => .shAccel a
  | 2 => .shLimit a
  | _ => if a = .transmission then .shFwd else .reserved

/-- Field `A & 3` of the active block (R104). -/
def activeReg (a : Axis) : Nat → Reg
  | 0 => .acSpeed a
  | 1 => .acAccel a
  | 2 => .acLimit a
  | _ => if a = .transmission then .acFwd else .reserved

/-- Offset `(A − 0x40) & 0xF` of an axis block (R104, 20_memory.md R76). -/
def axisReg (a : Axis) : Nat → Reg
  | 0 => .axis a .position
  | 1 => .axis a .target
  | 2 => .axis a .velLo
  | 3 => .axis a .velHi
  | 4 => .axis a .ivlLo
  | 5 => .axis a .ivlHi
  | 6 => .axis a .lstepLo
  | 7 => .axis a .lstepHi
  | 8 => .axis a .lvelLo
  | 9 => .axis a .lvelHi
  | 10 => .axis a .out
  | _ => .reserved

/-- The register at address number `n` (30_encoding.md R104). -/
def regAt (n : Nat) : Reg :=
  if n < 0x10 then controlReg n
  else if n < 0x20 then
    if h : n < 0x1A then .ch ⟨n - 0x10, by omega⟩ else .reserved
  else if n < 0x30 then shadowReg (axisOfIndex (n % 16 / 4)) (n % 4)
  else if n < 0x40 then activeReg (axisOfIndex (n % 16 / 4)) (n % 4)
  else if n < 0x80 then axisReg (axisOfIndex ((n - 0x40) / 16)) (n % 16)
  else .reserved

/-- The register at address `A`: "the host register map, every address" (20_memory.md R76, R77). -/
def regOf (a : Addr) : Reg := regAt a.toNat

/-- `D[15:0]`, the speed field of a write (10_state.md R47). -/
def speedField (d : Word) : BitVec 16 := d.extractLsb' 0 16

/-- `D[30:0]`, the limit field of a write; bit 31 is discarded (10_state.md R47, 47_host_interface.md R251). -/
def limitField (d : Word) : BitVec 31 := d.extractLsb' 0 31

/-- `min(D[15:0], STEER_SPEED_MAX)`, what a write of `AX0_SH_SPEED` stores (47_host_interface.md R253). -/
def steerSpeedField (P : Params) (d : Word) : BitVec 16 :=
  if (speedField d).toNat ≤ P.steerSpeedMax.toNat then speedField d else P.steerSpeedMax

/-- Bits 31:0 of a 64-bit quantity (20_memory.md R72). -/
def loWord (v : BitVec 64) : Word := v.extractLsb' 0 32

/-- Bits 63:32 of a 64-bit quantity (20_memory.md R72). -/
def hiWord (v : BitVec 64) : Word := v.extractLsb' 32 32

end Sys2Proof.Machine
end

