-- ==== Sys2Proof/Machine/Flags.lean ====
section
/-! DEFINITION. The flag words: STATUS, CAL_STATUS, AXa_OUT and AXa_IVL_HI as the host reads them (spec/10_state.md R42, R46,
R53, R54). -/

namespace Sys2Proof.Machine

/-- A word with bit `i` equal to `b` and every other bit 0. -/
def flagBit (b : Bool) (i : Nat) : Word := (BitVec.ofBool b).setWidth 32 <<< i

/-- `STATUS`, every field; bits 7:5 and 31:11 read 0 (10_state.md R53). -/
def statusWord (s : State) : Word :=
  flagBit s.run 0 ||| flagBit s.connLost 1 ||| flagBit s.firstDone 2 ||| flagBit s.calActive 3 |||
    flagBit s.pulseBusy 4 ||| flagBit s.rxOvf 8 ||| flagBit s.linkFail 9 ||| flagBit s.badCmd 10

/-- The 2-bit code of a calibration result (10_state.md R51). -/
def CalRes.code : CalRes → Word
  | .notRun => 0
  | .ok => 1
  | .fail => 2
  | .inProgress => 3

/-- The 2-bit code of a calibration phase (10_state.md R50). -/
def CalPhase.code : CalPhase → Word
  | .idle => 0
  | .seeking => 1
  | .backingOff => 2

/-- `CAL_AXIS − 1` (10_state.md R54). -/
def CalAxis.code : CalAxis → Word
  | .throttle => 0
  | .brake => 1

/-- `CAL_STATUS`, every field; bits 31:7 read 0 (10_state.md R54). -/
def calStatusWord (s : State) : Word :=
  s.calResThrottle.code ||| s.calResBrake.code <<< 2 ||| s.calPhase.code <<< 4 ||| s.calAxis.code <<< 6

/-- `AXa_OUT`: bit 0 `DIR[a]`, bit 1 `STEP[a]`, bit 2 `HELD[a]` (10_state.md R46). -/
def outWord (s : State) (a : Axis) : Word :=
  flagBit (s.axis a).dir 0 ||| flagBit ((s.axis a).stepLevel s.time) 1 ||| flagBit (s.held a) 2

/-- `AXa_IVL_HI`: bits 15:0 `IVL[a][47:32]`, bit 31 `INF[a]` (10_state.md R42). -/
def ivlHiWord (x : AxisState) : Word := (x.ivl.extractLsb' 32 16).setWidth 32 ||| flagBit x.inf 31

end Sys2Proof.Machine
end

