-- ==== Sys2Proof/Machine/HostInterface.lean ====
section
/-! DEFINITION. The host interface (spec/47_host_interface.md): the word each register reads as, register writes, and the
commands. -/

namespace Sys2Proof.Machine

/-- The registers of an axis block as the host reads them (10_state.md R39–R46, R55). -/
def axisRegValue (s : State) (a : Axis) : AxisReg → Word
  | .position => (s.axis a).pos
  | .target => (s.axis a).tgt
  | .velLo => (s.axis a).vel.extractLsb' 0 32
  | .velHi => ((s.axis a).vel.extractLsb' 32 8).setWidth 32
  | .ivlLo => (s.axis a).ivl.extractLsb' 0 32
  | .ivlHi => ivlHiWord (s.axis a)
  | .lstepLo => loWord (s.axis a).lstep
  | .lstepHi => hiWord (s.axis a).lstep
  | .lvelLo => loWord (s.axis a).lvel
  | .lvelHi => hiWord (s.axis a).lvel
  | .out => outWord s a

/-- The word a register reads as; `CMD` and reserved addresses read 0 (R250, 20_memory.md R77). -/
def regWord (s : State) : Reg → Word
  | .id => Config.idWord
  | .cmd => 0
  | .status => statusWord s
  | .rxLevel => (BitVec.ofNat 16 s.rxBuf.length).setWidth 32
  | .frameCnt => s.frameCnt
  | .dropCnt => s.dropCnt
  | .safeCnt => s.safeCnt
  | .calStatus => calStatusWord s
  | .timeLo => loWord s.time
  | .timeHi => hiWord s.time
  | .calCount => s.calCount
  | .ch k => s.ch[k].setWidth 32
  | .shSpeed a => (s.shadow.axes.get a).speed.setWidth 32
  | .shAccel a => (s.shadow.axes.get a).accel
  | .shLimit a => (s.shadow.axes.get a).limit.setWidth 32
  | .shFwd => s.shadow.fwd.setWidth 32
  | .acSpeed a => (s.active.axes.get a).speed.setWidth 32
  | .acAccel a => (s.active.axes.get a).accel
  | .acLimit a => (s.active.axes.get a).limit.setWidth 32
  | .acFwd => s.active.fwd.setWidth 32
  | .axis a r => axisRegValue s a r
  | .reserved => 0

/-- `value(A)` (R250). -/
def regValue (s : State) (addr : Addr) : Word := regWord s (regOf addr)

/-- The shadow settings of axis `a` changed by `f` (10_state.md R47). -/
def State.updShadow (s : State) (a : Axis) (f : AxisSettings → AxisSettings) : State :=
  { s with shadow := { s.shadow with axes := s.shadow.axes.upd a f } }

/-- What a write of `SH_SPEED[a]` stores: the steering speed under its ceiling (R251, R253). -/
def storedSpeed (P : Params) (a : Axis) (d : Word) : BitVec 16 :=
  if a = .steering then steerSpeedField P d else speedField d

/-- A write of a register that stores a value; every other register ignores it (R251, 20_memory.md R77). -/
def storeReg (P : Params) (r : Reg) (d : Word) (s : State) : State :=
  match r with
  | .shSpeed a => s.updShadow a fun c => { c with speed := storedSpeed P a d }
  | .shAccel a => s.updShadow a fun c => { c with accel := d }
  | .shLimit a => s.updShadow a fun c => { c with limit := limitField d }
  | .shFwd => { s with shadow := { s.shadow with fwd := limitField d } }
  | .id | .cmd | .status | .rxLevel | .frameCnt | .dropCnt | .safeCnt | .calStatus | .timeLo | .timeHi | .calCount => s
  | .ch _ | .acSpeed _ | .acAccel _ | .acLimit _ | .acFwd | .axis _ _ | .reserved => s

/-! ### Commands -/

/-- COMMIT: the whole shadow record becomes active and every velocity timestamp is TIME (R257). -/
def commit (s : State) : State :=
  { s with active := s.shadow, axes := s.axes.map (AxisState.restartVelocityTime s.time) }

/-- START_CALIBRATION, ignored while the sequencer is busy (R258). -/
def startCalibration (s : State) : State :=
  if s.calActive then s
  else
    { s with
      calActive := true, calAxis := .throttle, calPhase := .seeking, calCount := 0, calLast := s.time
      calResThrottle := .inProgress, calResBrake := .inProgress }

/-- CLEAR_STICKY (R259). -/
def clearSticky (s : State) : State := { s with rxOvf := false, linkFail := false, badCmd := false }

/-- START with the sampled level `link_ok`, ignored while running (R260). -/
def start (linkOk : Bool) (s : State) : State :=
  if s.run then s
  else if linkOk then { s with run := true, axes := s.axes.map (AxisState.restartVelocityTime s.time) }
  else { s with linkFail := true }

/-- SHUTDOWN on one axis: direction low, velocity 0 (R261). -/
def neutralAxis (x : AxisState) : AxisState := { x.halt with dir := false }

/-- A result still in progress becomes FAIL at SHUTDOWN (R261). -/
def CalRes.abort : CalRes → CalRes
  | .inProgress => .fail
  | .notRun => .notRun
  | .ok => .ok
  | .fail => .fail

/-- SHUTDOWN's abort of a running calibration (R261). -/
def abortCalibration (s : State) : State :=
  if s.calActive then
    { s with
      calResThrottle := s.calResThrottle.abort, calResBrake := s.calResBrake.abort
      calActive := false, calPhase := .idle, calCount := 0 }
  else s

/-- SHUTDOWN (R261). -/
def shutdown (s : State) : State := abortCalibration { s with run := false, axes := s.axes.map neutralAxis }

/-- A reserved command (R263). -/
def reservedCommand (s : State) : State := { s with badCmd := true }

/-- The command opcode map (30_encoding.md R101, R102; R252). -/
def command (opc : BitVec 8) (linkOk : Bool) (s : State) : State :=
  match opc.toNat with
  | 0 => s
  | 1 => commit s
  | 2 => enterSafeMode s
  | 3 => startCalibration s
  | 4 => clearSticky s
  | 5 => start linkOk s
  | 6 => shutdown s
  | _ + 7 => reservedCommand s

/-- REG_WRITE(A, D): a command at 0x01, else a store (R251). -/
def regWrite (P : Params) (addr : Addr) (d : Word) (linkOk : Bool) (s : State) : State :=
  if addr = 0x01 then command (opcodeOf d) linkOk s else storeReg P (regOf addr) d s

/-! ### Meanings -/

/-- The meaning of REG_READ: the register's word is answered, no other state changes (R250; log 6). -/
def execRegRead (addr : Addr) (s : State) : Result := .next { s with result := regValue s addr }

/-- The meaning of REG_WRITE (R251). -/
def execRegWrite (addr : Addr) (d : Word) (linkOk : Bool) (s : State) : Result :=
  .next (regWrite Config.params addr d linkOk s)

/-- The meaning of NOP (R254). -/
def execNop (s : State) : Result := .next s

/-- The meaning of COMMIT (R257). -/
def execCommit (s : State) : Result := .next (commit s)

/-- The meaning of ENTER_SAFE_MODE, in any state (R255). -/
def execEnterSafeModeCmd (s : State) : Result := .next (enterSafeMode s)

/-- The meaning of START_CALIBRATION (R258). -/
def execStartCalibration (s : State) : Result := .next (startCalibration s)

/-- The meaning of CLEAR_STICKY (R259). -/
def execClearSticky (s : State) : Result := .next (clearSticky s)

/-- The meaning of START (R260). -/
def execStart (linkOk : Bool) (s : State) : Result := .next (start linkOk s)

/-- The meaning of SHUTDOWN (R261). -/
def execShutdown (s : State) : Result := .next (shutdown s)

/-- The meaning of a reserved command, whatever its opcode (R263). -/
def execReservedCmd (_opc : BitVec 8) (s : State) : Result := .next (reservedCommand s)

end Sys2Proof.Machine
end

