-- ==== Sys2Proof/Machine/Dispatch.lean ====
section
/-! DEFINITION. One arm for each instruction, each a call of its meaning. -/

namespace Sys2Proof.Machine

/-- The meaning of every instruction. -/
def exec (i : Instr) (s : State) : Host.Outcome State Fault Refusal :=
  match i with
  | .regRead addr => Sys2Proof.Machine.execRegRead addr s
  | .regWrite addr data linkOk => Sys2Proof.Machine.execRegWrite addr data linkOk s
  | .nop => Sys2Proof.Machine.execNop s
  | .commit => Sys2Proof.Machine.execCommit s
  | .enterSafeModeCmd => Sys2Proof.Machine.execEnterSafeModeCmd s
  | .startCalibration => Sys2Proof.Machine.execStartCalibration s
  | .clearSticky => Sys2Proof.Machine.execClearSticky s
  | .start linkOk => Sys2Proof.Machine.execStart linkOk s
  | .shutdown => Sys2Proof.Machine.execShutdown s
  | .reservedCmd opc => Sys2Proof.Machine.execReservedCmd opc s
  | .frame ch pad ck => Sys2Proof.Machine.execFrame ch pad ck s
  | .rxByte b => Sys2Proof.Machine.execRxByte b s
  | .tick sw1 sw2 => Sys2Proof.Machine.execTick sw1 sw2 s
  | .advance n => Sys2Proof.Machine.execAdvance n s
  | .reset => Sys2Proof.Machine.execReset s
  | .parse => Sys2Proof.Machine.execParse s
  | .failsafe frameOk => Sys2Proof.Machine.execFailsafe frameOk s
  | .mix => Sys2Proof.Machine.execMix s
  | .calStep sw1 sw2 => Sys2Proof.Machine.execCalStep sw1 sw2 s
  | .profile a => Sys2Proof.Machine.execProfile a s
  | .step a => Sys2Proof.Machine.execStep a s
  | .emitPulse a d => Sys2Proof.Machine.execEmitPulse a d s
  | .enterSafeMode => Sys2Proof.Machine.execEnterSafeMode s

end Sys2Proof.Machine
end

