-- ==== Sys2Proof/Machine/Fetch.lean ====
section
/-! DEFINITION. Which event happens next. The block fetches no instruction (spec/10_state.md R30); its events come from its
agents (00_scope.md R17, R18), and State lists the requested ones (log 1). -/

namespace Sys2Proof.Machine

/-- The admission of a held TICK: it samples the switches now, as free inputs of its event (10_state.md R56; log 4), and `n`
requests stay held. -/
def admitHeld (s : State) (n : Nat) : Instr × State :=
  (.tick (Config.switchLevels s.switchSamples).1 (Config.switchLevels s.switchSamples).2,
    { s with heldTicks := n, switchSamples := s.switchSamples + 1 })

/-- The next event with the state it finds: a held TICK once no pulse is in flight (46_control_loop.md R229; log 3), else the
oldest requested input, decoded. None where neither is there (log 2). -/
def fetch (s : State) : Option (Except DecodeError Instr × State) :=
  match s.pulseBusy, s.heldTicks with
  | false, n + 1 => some (.ok (admitHeld s n).1, (admitHeld s n).2)
  | _, _ =>
    match s.inputs with
    | [] => none
    | e :: rest => some (decode e, { s with inputs := rest })

/-- The state in which `e` is the input fetched next: before the other requested ones, and with no held TICK that would be
admitted first. -/
def placeInput (e : Input) (s : State) : State :=
  { s with inputs := e :: s.inputs, heldTicks := if s.pulseBusy then s.heldTicks else 0 }

/-- The state in which the row of spec/opcode_table.json with the bits `w` is fetched next; unchanged where no row has that
length. -/
def placeTableWord (nbits w : Nat) (s : State) : State :=
  match tableInput nbits w with
  | some e => placeInput e s
  | none => s

end Sys2Proof.Machine
end

