-- ==== Sys2Proof/Machine/Step.lean ====
section
/-! DEFINITION. One step of the machine: the next event happens (spec/20_memory.md R84). -/

namespace Sys2Proof.Machine

/-- One step. Where no event is there the block idles, since it "never halts on its own" (00_scope.md R19; log 2); an input
out of range is refused by name (R20; log 14). -/
def step (s : State) : Host.Outcome State Fault Refusal :=
  match fetch s with
  | none => .next s
  | some (.ok i, t) => exec i t
  | some (.error why, _) => .refused (.badInput why)

/-- `s` with the row of spec/opcode_table.json whose bits are `w` placed where `step` takes its next event. -/
def State.withFetchWord (s : State) (nbits w : Nat) : State := placeTableWord nbits w s

end Sys2Proof.Machine
end

