-- ==== Sys2Proof/Safety.lean ====
section
/-! DEFINITION. What holds of the block at every event boundary: the invariants the spec states of single axes, of the
settings, of the receive buffer and of the calibration sequencer. -/

namespace Sys2Proof.Machine

/-- One axis: `VEL[a] = 0 ⇔ INF[a] = 1` (44_step.md R184); `INF[a] = 1` gives `IVL[a] = 0` (10_state.md R42); a finite interval
is not below the floor (43_profile.md R168); `VEL[a] ≤ 65535 × 10^6` (10_state.md R41). -/
structure AxisState.Ok (P : Params) (x : AxisState) : Prop where
  restIff : x.vel = 0 ↔ x.inf = true
  restInterval : x.inf = true → x.ivl = 0
  intervalFloor : x.inf = false → P.minStepIntervalUs ≤ x.ivl.toNat
  velocityCap : x.vel.toNat ≤ 65535 * Config.urpmPerRpm

/-- The steering speed of a settings record is under its ceiling (10_state.md R47, R48). -/
def Settings.Ok (P : Params) (c : Settings) : Prop := c.axes.steering.speed.toNat ≤ P.steerSpeedMax.toNat

/-- The calibration sequencer: its phase is IDLE exactly while it is inactive (10_state.md R50, 45_calibration.md R210), and the
steps of a phase do not exceed the phase's count (R206, R208). -/
structure State.CalOk (P : Params) (s : State) : Prop where
  idleIff : s.calActive = false ↔ s.calPhase = .idle
  seekCount : s.calPhase = .seeking → s.calCount.toNat ≤ P.calStepBudget.toNat
  backOffCount : s.calPhase = .backingOff → s.calCount.toNat ≤ P.calBackoffSteps.toNat

/-- The invariant of the block with parameters `P`. -/
structure State.Inv (P : Params) (s : State) : Prop where
  axisOk : ∀ a, (s.axis a).Ok P
  shadowOk : s.shadow.Ok P
  activeOk : s.active.Ok P
  bufferBound : s.rxBuf.length ≤ P.rxbufDepth
  calOk : s.CalOk P

end Sys2Proof.Machine
end

