-- ==== Sys2Proof/Certificates/Slice0/Obligations.lean ====
section
/-! DEFINITION. The statements about the TihonGit CORE, for the provers. Every parameter is `Config.params`, which has no
body, so a statement holds for every lawful parameter set (log 11). Where a conclusion names its next state as
`{ s with f := t.f, … }`, it says that every field of `s` but those named is unchanged. -/

open Sys2Proof Sys2Proof.Machine

/-! ### Encoding -/

/-- Decoding the encoding of a well-formed operation gives it back, with every operand at every value; only the internal
stages have no encoding (30_encoding.md R92, R95, R98–R103, R110). -/
def Obligations.DecodeEncodeRoundTrip : Prop :=
  ∀ i : Instr, i.wellFormed = true →
    match encode i with
    | some e => decode e = .ok i
    | none => i.format = .internal

/-- What decodes is a well-formed operation of the port it came in by, never an internal stage (30_encoding.md R92, R110). -/
def Obligations.DecodedIsWellFormed : Prop :=
  ∀ (e : Input) (i : Instr), decode e = .ok i →
    i.wellFormed = true ∧ i.format = e.format ∧ i.format ≠ .internal ∧ ∃ e', encode i = some e' ∧ decode e' = .ok i

/-- Every 41-bit word is a legal transaction, and its bits select the operation: bit 40 W, bits 39:32 A, bits 31:0 D, and
for a write to 0x01 bits 7:0 the opcode, bits 31:8 nothing (30_encoding.md R99–R102). -/
def Obligations.BusWordsDecode : Prop :=
  ∀ (t : BusWord) (l : Bool),
    let a : Addr := BitVec.ofNat 8 (t.toNat / 2 ^ 32)
    let d : Word := BitVec.ofNat 32 t.toNat
    let opc : Nat := t.toNat % 256
    decode (.bus t l.toNat) = .ok
      (if t.toNat < 2 ^ 40 then .regRead a
       else if a ≠ 0x01 then .regWrite a d l
       else if opc = 0 then .nop
       else if opc = 1 then .commit
       else if opc = 2 then .enterSafeModeCmd
       else if opc = 3 then .startCalibration
       else if opc = 4 then .clearSticky
       else if opc = 5 then .start l
       else if opc = 6 then .shutdown
       else .reservedCmd (BitVec.ofNat 8 opc))

/-- The words of the spec's programs decode to the operations they are printed beside (95_test_vectors.md P1, P2, P3, P5, P6).
How the 48 bits of a table word are laid out, and that such a word comes with `link_ok` = 0, is the model's reading of the
opcode table (log 9; the programs' own default of the level is 1); START is given with the level 1 as a raw input. -/
def Obligations.SampleWordsDecode : Prop :=
  decodeTableWord 48 0x12000000BB8 = some (.regWrite 0x20 3000 false) ∧
  decodeTableWord 48 0x121000186A0 = some (.regWrite 0x21 100000 false) ∧
  decodeTableWord 48 0x12F00000320 = some (.regWrite 0x2F 800 false) ∧
  decodeTableWord 48 0x00200000000 = some (.regRead 0x02) ∧
  decodeTableWord 48 0x10100000001 = some .commit ∧
  decodeTableWord 48 0x10100000002 = some .enterSafeModeCmd ∧
  decodeTableWord 48 0x10100000003 = some .startCalibration ∧
  decodeTableWord 48 0x10100000004 = some .clearSticky ∧
  decodeTableWord 48 0x10100000006 = some .shutdown ∧
  decodeTableWord 48 0x10100000007 = some (.reservedCmd 0x07) ∧
  decode (.bus 0x10100000005 1) = .ok (.start true) ∧
  decode (.rxByte 0x20) = .ok (.rxByte 0x20) ∧
  decode (.tick 0 1) = .ok (.tick false true) ∧
  decode (.advance 10000) = .ok (.advance 10000)

/-- A window of at least 32 bytes is a valid frame exactly when bytes 0 and 1 are 0x20, 0x40 and bytes 30, 31 hold, low byte
first, 0xFFFF less the sum of bytes 0–29; that number then lies in 0xE21D … 0xFF9F and byte 31 is at least 0xE2
(30_encoding.md R94–R97). -/
def Obligations.FrameValidity : Prop :=
  ∀ w : List Byte, 32 ≤ w.length →
    let total : Nat := ((w.take 30).map BitVec.toNat).sum
    (frameValid w = true ↔
      byteAt w 0 = 0x20 ∧ byteAt w 1 = 0x40 ∧
        ((byteAt w 30).toNat + 256 * (byteAt w 31).toNat : Int) = 0xFFFF - (total : Int)) ∧
    (headerMatch w = true → 96 ≤ total ∧ total ≤ 7650 ∧ (checksum w).toNat = 65535 - total ∧
      57885 ≤ (checksum w).toNat ∧ (checksum w).toNat ≤ 65439) ∧
    (frameValid w = true → 0xE2 ≤ (byteAt w 31).toNat)

/-- A constructed frame is 32 bytes: the header, each channel low byte first, eight zero pad bytes, the checksum low byte
first. It is valid, and its channels are read back (30_encoding.md R98). -/
def Obligations.ConstructedFrames : Prop :=
  ∀ ch : Vector (BitVec 16) 10,
    (enc ch).length = 32 ∧ byteAt (enc ch) 0 = 0x20 ∧ byteAt (enc ch) 1 = 0x40 ∧
    (∀ k : Fin 10, (byteAt (enc ch) (2 + 2 * k)).toNat = ch[k].toNat % 256 ∧
      (byteAt (enc ch) (3 + 2 * k)).toNat = ch[k].toNat / 256) ∧
    (∀ j : Fin 8, byteAt (enc ch) (22 + j) = 0) ∧
    (((byteAt (enc ch) 30).toNat + 256 * (byteAt (enc ch) 31).toNat : Int) =
      0xFFFF - (0x20 + 0x40 + (ch.toList.map fun c => (c.toNat % 256 + c.toNat / 256 : Int)).sum)) ∧
    frameValid (enc ch) = true ∧
    ∀ k : Fin 10, chan (enc ch) k = ch[k]

/-! ### The step -/

/-- Where no held TICK is admissible, a step runs the operation the oldest requested input decodes to, on the state less that
input (log 1). -/
def Obligations.StepRunsDecodedInput : Prop :=
  ∀ (s : State) (e : Input) (rest : List Input) (i : Instr),
    (s.pulseBusy = true ∨ s.heldTicks = 0) → s.inputs = e :: rest → decode e = .ok i → i.wellFormed = true →
      step s = exec i { s with inputs := rest }

/-- A TICK requested while a pulse is in flight is held, not lost: the events behind it still happen, and once ADVANCE has
ended the pulse the next step is that TICK, at the new TIME. No level is kept from its request: it samples free inputs then
(46_control_loop.md R229, 10_state.md R56; that it comes before the other requested events, and that the levels are those of
the admission, is the model's choice, log 3 and 4). -/
def Obligations.HeldTickRunsAfterAdvance : Prop :=
  ∀ (s : State) (sw1 sw2 : Bool) (n : Nat) (rest : List Input),
    s.pulseBusy = true → s.heldTicks = 0 → 0 < n → n < 2 ^ 64 →
    s.inputs = .tick sw1.toNat sw2.toNat :: .advance n :: rest →
    ∃ t u : State, step s = .next t ∧ step t = .next u ∧
      u = { s with inputs := rest, heldTicks := 1, time := s.time + BitVec.ofNat 64 n } ∧
      let levels := Config.switchLevels s.switchSamples
      (u.pulseBusy = false → step u =
        exec (.tick levels.1 levels.2) { u with heldTicks := 0, switchSamples := s.switchSamples + 1 })

/-- Where no held TICK is admissible, an input outside the ranges is refused by name: every byte above 255, an advance of 0 and
every one above 2^64 − 1, every pair of switch levels one of which is not 0 or 1, every transaction with such a `link_ok`,
and every wire unit that is not 32 bytes beginning with the header; and `ADVANCE(0)` given to exec (00_scope.md R20,
30_encoding.md R93, R94, R103; that the outcome is a refusal, and a wire unit's, are the model's reading, log 13, 14). -/
def Obligations.OutOfRangeInputsRefused : Prop :=
  ∀ (s : State) (rest : List Input), (s.pulseBusy = true ∨ s.heldTicks = 0) →
    (∀ b, 256 ≤ b → step { s with inputs := .rxByte b :: rest } = .refused (.badInput .byteOutOfRange)) ∧
    (∀ n, n = 0 ∨ 2 ^ 64 ≤ n → step { s with inputs := .advance n :: rest } = .refused (.badInput .advanceOutOfRange)) ∧
    (∀ sw1 sw2, 2 ≤ sw1 ∨ 2 ≤ sw2 →
      step { s with inputs := .tick sw1 sw2 :: rest } = .refused (.badInput .levelOutOfRange)) ∧
    (∀ t link, 2 ≤ link → step { s with inputs := .bus t link :: rest } = .refused (.badInput .levelOutOfRange)) ∧
    (∀ bytes : List Byte, ¬ (bytes.length = 32 ∧ ∃ tail, bytes = 0x20 :: 0x40 :: tail) →
      step { s with inputs := .wire bytes :: rest } = .refused (.badInput .notAFrameWindow)) ∧
    exec (.advance 0) s = .refused .advanceZero

/-- With no admissible TICK and no requested input the block idles: the state does not change (the model's choice, log 2). -/
def Obligations.IdleWithoutEvents : Prop :=
  ∀ s : State, (s.pulseBusy = true ∨ s.heldTicks = 0) → s.inputs = [] → step s = .next s

/-! ### Reset -/

/-- RESET from any state: every element takes its reset value, a held TICK is discarded, and every output is low
(70_reset_and_hazards.md R301, R302). -/
def Obligations.ResetRestoresEveryElement : Prop :=
  ∀ s : State, ∃ t : State, exec .reset s = .next t ∧
    t.time = 0 ∧ t.run = false ∧ t.connLost = false ∧ t.firstDone = false ∧
    t.rxOvf = false ∧ t.linkFail = false ∧ t.badCmd = false ∧
    t.frameCnt = 0 ∧ t.dropCnt = 0 ∧ t.safeCnt = 0 ∧ t.rxBuf = [] ∧ (∀ k : Fin 10, t.ch[k] = 0) ∧
    (∀ a, (t.axis a).pos = 0 ∧ (t.axis a).vel = 0 ∧ (t.axis a).inf = true ∧ (t.axis a).ivl = 0 ∧
      (t.axis a).tgt = 0 ∧ (t.axis a).lstep = 0 ∧ (t.axis a).lvel = 0 ∧ (t.axis a).dir = false ∧
      (t.axis a).pstart = 0 ∧ (t.axis a).pend = 0 ∧ (t.axis a).stepLevel t.time = false) ∧
    (∀ a, t.shadow.axes.get a = ⟨0, 0, 0⟩ ∧ t.active.axes.get a = ⟨0, 0, 0⟩) ∧ t.shadow.fwd = 0 ∧ t.active.fwd = 0 ∧
    t.calActive = false ∧ t.calAxis = .throttle ∧ t.calPhase = .idle ∧ t.calCount = 0 ∧ t.calTtrig = 0 ∧
    t.calLast = 0 ∧ t.calResThrottle = .notRun ∧ t.calResBrake = .notRun ∧
    t.heldTicks = 0

/-- After RESET every register reads 0 but ID and the four interval registers, which show an infinite interval
(95_test_vectors.md V-Z1; 70_reset_and_hazards.md R301; the answer stands in the model's own field `result`, log 6). -/
def Obligations.RegistersReadAfterReset : Prop :=
  ∀ s t : State, exec .reset s = .next t → ∀ a : Addr,
    exec (.regRead a) t = .next { t with result :=
      if a = 0x00 then 0x54484731
      else if a = 0x45 ∨ a = 0x55 ∨ a = 0x65 ∨ a = 0x75 then 0x80000000
      else 0 }

/-! ### The host interface -/

/-- REG_READ answers the word of the register map and changes no other state (47_host_interface.md R250, 20_memory.md R75,
R76; the answer stands in the model's own field `result`, log 6). -/
def Obligations.RegisterMapReads : Prop :=
  ∀ s : State,
    (∀ addr, exec (.regRead addr) s = .next { s with result := regValue s addr }) ∧
    regValue s 0x00 = 0x54484731 ∧ regValue s 0x01 = 0 ∧
    (regValue s 0x03).toNat = s.rxBuf.length % 2 ^ 16 ∧
    regValue s 0x04 = s.frameCnt ∧ regValue s 0x05 = s.dropCnt ∧ regValue s 0x06 = s.safeCnt ∧
    (regValue s 0x08).toNat = s.time.toNat % 2 ^ 32 ∧ (regValue s 0x09).toNat = s.time.toNat / 2 ^ 32 ∧
    regValue s 0x0A = s.calCount ∧
    (∀ k : Fin 10, (regValue s (BitVec.ofNat 8 (0x10 + k))).toNat = s.ch[k].toNat) ∧
    (∀ a : Axis,
      (regValue s (BitVec.ofNat 8 (0x20 + 4 * axisIndex a))).toNat = (s.shadow.axes.get a).speed.toNat ∧
      regValue s (BitVec.ofNat 8 (0x21 + 4 * axisIndex a)) = (s.shadow.axes.get a).accel ∧
      (regValue s (BitVec.ofNat 8 (0x22 + 4 * axisIndex a))).toNat = (s.shadow.axes.get a).limit.toNat ∧
      (regValue s (BitVec.ofNat 8 (0x30 + 4 * axisIndex a))).toNat = (s.active.axes.get a).speed.toNat ∧
      regValue s (BitVec.ofNat 8 (0x31 + 4 * axisIndex a)) = (s.active.axes.get a).accel ∧
      (regValue s (BitVec.ofNat 8 (0x32 + 4 * axisIndex a))).toNat = (s.active.axes.get a).limit.toNat ∧
      regValue s (BitVec.ofNat 8 (0x40 + 16 * axisIndex a)) = (s.axis a).pos ∧
      regValue s (BitVec.ofNat 8 (0x41 + 16 * axisIndex a)) = (s.axis a).tgt ∧
      (regValue s (BitVec.ofNat 8 (0x42 + 16 * axisIndex a))).toNat = (s.axis a).vel.toNat % 2 ^ 32 ∧
      (regValue s (BitVec.ofNat 8 (0x43 + 16 * axisIndex a))).toNat = (s.axis a).vel.toNat / 2 ^ 32 ∧
      (regValue s (BitVec.ofNat 8 (0x44 + 16 * axisIndex a))).toNat = (s.axis a).ivl.toNat % 2 ^ 32 ∧
      (regValue s (BitVec.ofNat 8 (0x45 + 16 * axisIndex a))).toNat =
        (s.axis a).ivl.toNat / 2 ^ 32 + (s.axis a).inf.toNat * 2 ^ 31 ∧
      (regValue s (BitVec.ofNat 8 (0x46 + 16 * axisIndex a))).toNat = (s.axis a).lstep.toNat % 2 ^ 32 ∧
      (regValue s (BitVec.ofNat 8 (0x47 + 16 * axisIndex a))).toNat = (s.axis a).lstep.toNat / 2 ^ 32 ∧
      (regValue s (BitVec.ofNat 8 (0x48 + 16 * axisIndex a))).toNat = (s.axis a).lvel.toNat % 2 ^ 32 ∧
      (regValue s (BitVec.ofNat 8 (0x49 + 16 * axisIndex a))).toNat = (s.axis a).lvel.toNat / 2 ^ 32) ∧
    (regValue s 0x2F).toNat = s.shadow.fwd.toNat ∧ (regValue s 0x3F).toNat = s.active.fwd.toNat

/-- The flag words: every field of STATUS, of CAL_STATUS and of AXa_OUT (10_state.md R46, R53, R54). -/
def Obligations.FlagWordsRead : Prop :=
  ∀ s : State,
    (regValue s 0x02).getLsbD 0 = s.run ∧ (regValue s 0x02).getLsbD 1 = s.connLost ∧
    (regValue s 0x02).getLsbD 2 = s.firstDone ∧ (regValue s 0x02).getLsbD 3 = s.calActive ∧
    ((regValue s 0x02).getLsbD 4 = true ↔ ∃ a, s.time.toNat < (s.axis a).pend.toNat) ∧
    (regValue s 0x02).getLsbD 8 = s.rxOvf ∧ (regValue s 0x02).getLsbD 9 = s.linkFail ∧
    (regValue s 0x02).getLsbD 10 = s.badCmd ∧
    (∀ k, 5 ≤ k ∧ k ≤ 7 ∨ 11 ≤ k → (regValue s 0x02).getLsbD k = false) ∧
    (regValue s 0x07).toNat =
      (match s.calResThrottle with | .notRun => 0 | .ok => 1 | .fail => 2 | .inProgress => 3) +
      (match s.calResBrake with | .notRun => 0 | .ok => 4 | .fail => 8 | .inProgress => 12) +
      (match s.calPhase with | .idle => 0 | .seeking => 16 | .backingOff => 32) +
      (match s.calAxis with | .throttle => 0 | .brake => 64) ∧
    ∀ a : Axis,
      let w := regValue s (BitVec.ofNat 8 (0x4A + 16 * axisIndex a))
      w.getLsbD 0 = (s.axis a).dir ∧
      (w.getLsbD 1 = true ↔ (s.axis a).pstart.toNat ≤ s.time.toNat ∧ s.time.toNat < (s.axis a).pend.toNat) ∧
      (w.getLsbD 2 = true ↔ s.calActive = true ∧
        (a = .throttle ∧ s.calAxis = .throttle ∨ a = .brake ∧ s.calAxis = .brake)) ∧
      ∀ k, 3 ≤ k → w.getLsbD k = false

/-- Reserved addresses, `CMD` and reserved fields read 0; a write to a reserved address or a read-only register changes
nothing (20_memory.md R77; the word read stands in the model's own field `result`, log 6). -/
def Obligations.ReservedSpaceIsInert : Prop :=
  ∀ (s : State) (addr : Addr) (d : Word) (l : Bool),
    let n := addr.toNat
    (n = 0x01 ∨ 0x0B ≤ n ∧ n ≤ 0x0F ∨ 0x1A ≤ n ∧ n ≤ 0x1F ∨ n = 0x23 ∨ n = 0x27 ∨ n = 0x2B ∨ n = 0x33 ∨ n = 0x37 ∨
        n = 0x3B ∨ 0x40 ≤ n ∧ n ≤ 0x7F ∧ 11 ≤ n % 16 ∨ 0x80 ≤ n →
      exec (.regRead addr) s = .next { s with result := 0 }) ∧
    (n = 0x02 → ∀ k, 5 ≤ k ∧ k ≤ 7 ∨ 11 ≤ k → (regValue s addr).getLsbD k = false) ∧
    (n = 0x07 → ∀ k, 7 ≤ k → (regValue s addr).getLsbD k = false) ∧
    (n = 0x03 ∨ 0x10 ≤ n ∧ n ≤ 0x19 ∨ 0x20 ≤ n ∧ n ≤ 0x3F ∧ n % 4 = 0 →
      ∀ k, 16 ≤ k → (regValue s addr).getLsbD k = false) ∧
    (0x20 ≤ n ∧ n ≤ 0x3F ∧ 2 ≤ n % 4 → (regValue s addr).getLsbD 31 = false) ∧
    (0x40 ≤ n ∧ n ≤ 0x7F ∧ n % 16 = 3 → ∀ k, 8 ≤ k → (regValue s addr).getLsbD k = false) ∧
    (0x40 ≤ n ∧ n ≤ 0x7F ∧ n % 16 = 5 → ∀ k, 16 ≤ k ∧ k ≤ 30 → (regValue s addr).getLsbD k = false) ∧
    (0x40 ≤ n ∧ n ≤ 0x7F ∧ n % 16 = 10 → ∀ k, 3 ≤ k → (regValue s addr).getLsbD k = false) ∧
    (n ≠ 0x01 → (n < 0x20 ∨ 0x30 ≤ n ∨ n = 0x23 ∨ n = 0x27 ∨ n = 0x2B) → exec (.regWrite addr d l) s = .next s)

/-- A write to a shadow register stores the field's bits in that field of that axis and changes nothing else; the steering
speed is stored under its ceiling (47_host_interface.md R251, R253; 10_state.md R47). -/
def Obligations.ShadowWritesStore : Prop :=
  ∀ (s : State) (a : Axis) (d : Word) (l : Bool),
    (∃ t, exec (.regWrite (BitVec.ofNat 8 (0x20 + 4 * axisIndex a)) d l) s = .next t ∧
      t = { s with shadow := { s.shadow with axes := t.shadow.axes } } ∧
      (∀ b, b ≠ a → t.shadow.axes.get b = s.shadow.axes.get b) ∧
      t.shadow.axes.get a = { s.shadow.axes.get a with speed := (t.shadow.axes.get a).speed } ∧
      (t.shadow.axes.get a).speed.toNat =
        if a = .steering then min (d.toNat % 2 ^ 16) Config.params.steerSpeedMax.toNat else d.toNat % 2 ^ 16) ∧
    (∃ t, exec (.regWrite (BitVec.ofNat 8 (0x21 + 4 * axisIndex a)) d l) s = .next t ∧
      t = { s with shadow := { s.shadow with axes := t.shadow.axes } } ∧
      (∀ b, b ≠ a → t.shadow.axes.get b = s.shadow.axes.get b) ∧
      t.shadow.axes.get a = { s.shadow.axes.get a with accel := d }) ∧
    (∃ t, exec (.regWrite (BitVec.ofNat 8 (0x22 + 4 * axisIndex a)) d l) s = .next t ∧
      t = { s with shadow := { s.shadow with axes := t.shadow.axes } } ∧
      (∀ b, b ≠ a → t.shadow.axes.get b = s.shadow.axes.get b) ∧
      t.shadow.axes.get a = { s.shadow.axes.get a with limit := (t.shadow.axes.get a).limit } ∧
      (t.shadow.axes.get a).limit.toNat = d.toNat % 2 ^ 31) ∧
    (∃ t, exec (.regWrite 0x2F d l) s = .next t ∧
      t = { s with shadow := { s.shadow with fwd := t.shadow.fwd } } ∧ t.shadow.fwd.toNat = d.toNat % 2 ^ 31)

/-- A write to any address but 0x01 leaves every other register as it read, and everything but the shadow settings unchanged:
the active settings stay until COMMIT (20_memory.md R75, R90). -/
def Obligations.RegisterWriteFrame : Prop :=
  ∀ (s : State) (addr : Addr) (d : Word) (l : Bool), addr ≠ 0x01 →
    ∃ t, exec (.regWrite addr d l) s = .next t ∧ t = { s with shadow := t.shadow } ∧
      ∀ b : Addr, b ≠ addr → regValue t b = regValue s b

/-- A write to 0x01 executes the command that `D[7:0]` selects, whatever `D[31:8]` is (47_host_interface.md R252). The term
`.regWrite 0x01` is ill-formed and the decoder never gives it, since a raw input of that write decodes to the command itself;
what exec does with it is the model's choice (log 21). -/
def Obligations.CommandWriteDispatch : Prop :=
  ∀ (s : State) (d : Word) (l : Bool),
    exec (.regWrite 0x01 d l) s =
      if d.toNat % 256 = 0 then exec .nop s
      else if d.toNat % 256 = 1 then exec .commit s
      else if d.toNat % 256 = 2 then exec .enterSafeModeCmd s
      else if d.toNat % 256 = 3 then exec .startCalibration s
      else if d.toNat % 256 = 4 then exec .clearSticky s
      else if d.toNat % 256 = 5 then exec (.start l) s
      else if d.toNat % 256 = 6 then exec .shutdown s
      else exec (.reservedCmd (BitVec.ofNat 8 d.toNat)) s

/-- NOP, a write of a word with `D[7:0]` = 0x00 to 0x01, has no effect (47_host_interface.md R254). -/
def Obligations.NopHasNoEffect : Prop :=
  (∀ (d : Word) (l : Bool), d.toNat % 256 = 0 → decode (.bus (busWord true 0x01 d) l.toNat) = .ok .nop) ∧
  ∀ s : State, exec .nop s = .next s

/-- COMMIT, a write of a word with `D[7:0]` = 0x01 to 0x01, replaces the whole active record by the shadow record and sets every
velocity timestamp to TIME; nothing else changes (47_host_interface.md R257). -/
def Obligations.CommitReplacesSettings : Prop :=
  (∀ (d : Word) (l : Bool), d.toNat % 256 = 1 → decode (.bus (busWord true 0x01 d) l.toNat) = .ok .commit) ∧
  ∀ s : State, ∃ t, exec .commit s = .next t ∧ t = { s with active := s.shadow, axes := t.axes } ∧
    ∀ a, t.axis a = { s.axis a with lvel := s.time }

/-- Safe-mode entry, by the host's command or by the failsafe's hook: steering and throttle targets 0, brake target the full
limit, `SAFE_CNT` one more, nothing else (41_failsafe.md R143, 47_host_interface.md R255). -/
def Obligations.SafeModeTargets : Prop :=
  ∀ s : State, ∃ t, exec .enterSafeMode s = .next t ∧ exec .enterSafeModeCmd s = .next t ∧
    t = { s with axes := t.axes, safeCnt := t.safeCnt } ∧ t.safeCnt.toNat = (s.safeCnt.toNat + 1) % 2 ^ 32 ∧
    t.axis .steering = { s.axis .steering with tgt := 0 } ∧ t.axis .throttle = { s.axis .throttle with tgt := 0 } ∧
    t.axis .brake = { s.axis .brake with tgt := (t.axis .brake).tgt } ∧
    (t.axis .brake).tgt.toInt = (s.settings .brake).limit.toNat ∧ t.axis .transmission = s.axis .transmission

/-- Two calls of `enterSafeMode()` leave what one leaves, but for `SAFE_CNT` (41_failsafe.md R144). -/
def Obligations.SafeModeIdempotent : Prop :=
  ∀ s t u : State, exec .enterSafeMode s = .next t → exec .enterSafeMode t = .next u →
    u = { t with safeCnt := u.safeCnt } ∧ u.safeCnt = t.safeCnt + 1

/-- START_CALIBRATION takes the idle sequencer for the throttle, seeking, from TIME, with both results in progress; a busy
sequencer ignores it (47_host_interface.md R258). -/
def Obligations.StartCalibrationTakesSequencer : Prop :=
  ∀ s : State, exec .startCalibration s = .next
    (if s.calActive then s
     else { s with calActive := true, calAxis := .throttle, calPhase := .seeking, calCount := 0, calLast := s.time
                   calResThrottle := .inProgress, calResBrake := .inProgress })

/-- CLEAR_STICKY clears the three sticky flags and nothing else (47_host_interface.md R259). -/
def Obligations.ClearStickyClearsFlags : Prop :=
  (∀ (d : Word) (l : Bool), d.toNat % 256 = 4 → decode (.bus (busWord true 0x01 d) l.toNat) = .ok .clearSticky) ∧
  ∀ s : State, exec .clearSticky s = .next { s with rxOvf := false, linkFail := false, badCmd := false }

/-- A reserved command sets `BAD_CMD` and changes nothing else; it does not trap (47_host_interface.md R263). -/
def Obligations.ReservedCommandSetsBadCmd : Prop :=
  (∀ (d : Word) (l : Bool), 7 ≤ d.toNat % 256 →
    decode (.bus (busWord true 0x01 d) l.toNat) = .ok (.reservedCmd (BitVec.ofNat 8 d.toNat))) ∧
  ∀ (s : State) (opc : BitVec 8), 7 ≤ opc.toNat → exec (.reservedCmd opc) s = .next { s with badCmd := true }

/-- START: with the transport present the loop runs and every velocity timestamp is TIME; without it `LINK_FAIL` is set and
the loop does not start; while running it does nothing (47_host_interface.md R260). -/
def Obligations.StartNeedsTransport : Prop :=
  ∀ s : State,
    (s.run = true → ∀ l, exec (.start l) s = .next s) ∧
    (s.run = false → exec (.start false) s = .next { s with linkFail := true }) ∧
    (s.run = false → ∃ t, exec (.start true) s = .next t ∧ t = { s with run := true, axes := t.axes } ∧
      ∀ a, t.axis a = { s.axis a with lvel := s.time })

/-- SHUTDOWN, a write of a word with `D[7:0]` = 0x06 to 0x01: the loop stops, every direction is low and every velocity 0, a running calibration is aborted with its unfinished
results FAIL; a pulse in flight completes, and everything else is kept (47_host_interface.md R261). -/
def Obligations.ShutdownLeavesOutputsNeutral : Prop :=
  (∀ (d : Word) (l : Bool), d.toNat % 256 = 6 → decode (.bus (busWord true 0x01 d) l.toNat) = .ok .shutdown) ∧
  ∀ s : State, ∃ t, exec .shutdown s = .next t ∧
    t = { s with run := false, axes := t.axes, calActive := false, calPhase := t.calPhase, calCount := t.calCount
                 calResThrottle := t.calResThrottle, calResBrake := t.calResBrake } ∧
    (∀ a, t.axis a = { s.axis a with dir := false, vel := 0, inf := true, ivl := 0 }) ∧
    (∀ a, (t.axis a).stepLevel t.time = (s.axis a).stepLevel s.time) ∧
    (s.calActive = true → t.calPhase = .idle ∧ t.calCount = 0 ∧
      t.calResThrottle = (if s.calResThrottle = .inProgress then .fail else s.calResThrottle) ∧
      t.calResBrake = (if s.calResBrake = .inProgress then .fail else s.calResBrake)) ∧
    (s.calActive = false → t.calPhase = s.calPhase ∧ t.calCount = s.calCount ∧
      t.calResThrottle = s.calResThrottle ∧ t.calResBrake = s.calResBrake)

/-! ### The framer -/

/-- RX_BYTE: discarded while stopped; pushed behind the buffered bytes where there is room; lost with `RX_OVF` where there is
none (40_framer.md R122). -/
def Obligations.RxByteArrives : Prop :=
  ∀ (s : State) (b : Byte),
    (s.run = false → exec (.rxByte b) s = .next s) ∧
    (s.run = true → s.rxBuf.length < Config.params.rxbufDepth →
      exec (.rxByte b) s = .next { s with rxBuf := s.rxBuf ++ [b] }) ∧
    (s.run = true → Config.params.rxbufDepth ≤ s.rxBuf.length →
      exec (.rxByte b) s = .next { s with rxOvf := true })

/-- A FRAME's 32 bytes arrive in wire order: into the buffer as far as there is room, the rest lost with `RX_OVF`; discarded
while stopped (40_framer.md R122 for each byte; that FRAME is 32 arrivals is the model's reading, log 8). -/
def Obligations.FrameBytesArrive : Prop :=
  ∀ (s : State) (ch : Vector (BitVec 16) 10) (pad : Vector Byte 8) (ck : BitVec 16),
    (s.run = false → exec (.frame ch pad ck) s = .next s) ∧
    (s.run = true → s.rxBuf.length ≤ Config.params.rxbufDepth →
      exec (.frame ch pad ck) s = .next
        { s with
          rxBuf := (s.rxBuf ++ frameBytes ch pad ck).take Config.params.rxbufDepth
          rxOvf := s.rxOvf || decide (Config.params.rxbufDepth < s.rxBuf.length + 32) })

/-- PARSE on garbage followed by a valid frame, where no window that begins in the garbage is valid: exactly the garbage is
dropped and counted, the frame's channels are latched, its 32 bytes leave the buffer, and what follows it stays
(40_framer.md R125–R127, R131, R134; that `frame_ok` is answered in `result` is the model's choice, log 6). -/
def Obligations.ParseDeliversAfterGarbage : Prop :=
  ∀ (s : State) (garbage rest : List Byte) (ch : Vector (BitVec 16) 10) (pad : Vector Byte 8),
    s.rxBuf = garbage ++ (frameBytes ch pad (checksum (frameBody ch pad)) ++ rest) →
    (∀ i < garbage.length, frameValid (s.rxBuf.drop i) = false) →
      exec .parse s = .next
        { s with
          rxBuf := rest, ch := ch, frameCnt := s.frameCnt + 1
          dropCnt := s.dropCnt + BitVec.ofNat 32 garbage.length, result := 1 }

/-- PARSE on a buffer with no valid window: no frame is emitted, one byte is dropped and counted for each window, and the
last bytes, fewer than 32, stay (40_framer.md R128, R129, R132; the answer in `result` is the model's choice, log 6). -/
def Obligations.ParseWithoutFrame : Prop :=
  ∀ s : State, (∀ i, i + 32 ≤ s.rxBuf.length → frameValid (s.rxBuf.drop i) = false) →
    exec .parse s = .next
      { s with
        rxBuf := s.rxBuf.drop (s.rxBuf.length - 31)
        dropCnt := s.dropCnt + BitVec.ofNat 32 (s.rxBuf.length - 31), result := 0 }

/-- A FRAME received by a running block with an empty buffer and then parsed: exactly its ten channels are latched, whatever its
pad bytes, and the buffer is empty again (30_encoding.md R98, R111; 40_framer.md R134; FRAME's arrival and the answer in
`result` are the model's choices, log 8, 6). -/
def Obligations.ReceivedFrameRoundTrips : Prop :=
  ∀ (s : State) (ch : Vector (BitVec 16) 10) (pad : Vector Byte 8), s.run = true → s.rxBuf = [] →
    ∃ t, exec (.frame ch pad (checksum (frameBody ch pad))) s = .next t ∧
      exec .parse t = .next { s with ch := ch, frameCnt := s.frameCnt + 1, result := 1 }

/-! ### The failsafe -/

/-- The failsafe's transition table: without a frame nothing; a valid signal clears `CONN_LOST`; the first lost signal sets it
and enters safe mode; a further one does nothing. The stage's `sig_ok` is answered (41_failsafe.md R141, R142; that it is
answered in `result` is the model's choice, log 6). -/
def Obligations.FailsafeTransitions : Prop :=
  ∀ s : State,
    exec (.failsafe false) s = .next { s with result := 0 } ∧
    (800 ≤ s.ch[6].toNat → exec (.failsafe true) s = .next { s with connLost := false, result := 1 }) ∧
    (s.ch[6].toNat < 800 → s.connLost = true → exec (.failsafe true) s = .next { s with result := 0 }) ∧
    (s.ch[6].toNat < 800 → s.connLost = false →
      ∃ t, exec .enterSafeMode s = .next t ∧
        exec (.failsafe true) s = .next { t with connLost := true, result := 0 })

/-! ### The mixer -/

/-- MIX: the one-shot steering pin and the four targets, each the exact product truncated toward zero once and saturated to 32
bits; no velocity, timestamp or output, and no other position (42_mixer.md R150–R158). -/
def Obligations.MixComputesTargets : Prop :=
  ∀ s : State, ∃ t, exec .mix s = .next t ∧ t = { s with axes := t.axes, firstDone := true } ∧
    (∀ a, t.axis a = { s.axis a with tgt := (t.axis a).tgt, pos := (t.axis a).pos }) ∧
    (∀ a, (t.axis a).pos = if a = .steering ∧ s.firstDone = false then 0 else (s.axis a).pos) ∧
    (t.axis .steering).tgt.toInt =
      max (-2147483648) (min 2147483647
        (Int.tdiv (((s.ch[0].toNat : Int) - 1500) * (s.settings .steering).limit.toNat) 500)) ∧
    (t.axis .throttle).tgt.toInt =
      (if s.ch[1].toNat ≤ 1500 then 0
       else max (-2147483648) (min 2147483647
        (Int.tdiv (((s.ch[1].toNat : Int) - 1500) * (s.settings .throttle).limit.toNat) 500))) ∧
    (t.axis .brake).tgt.toInt =
      max (-2147483648) (min 2147483647
        (Int.tdiv (((s.ch[2].toNat : Int) - 1000) * (s.settings .brake).limit.toNat) 1000)) ∧
    (t.axis .transmission).tgt.toInt =
      (if s.ch[5].toNat < 1200 then -((s.settings .transmission).limit.toNat : Int)
       else if 1800 < s.ch[5].toNat then (s.active.fwd.toNat : Int) else 0)

/-! ### The velocity profile -/

/-- PROFILE: the velocity moves toward the speed by at most acceleration times elapsed time and never past it; the interval is
the least whole number of microseconds not below 6·10^13 / (VEL·PPR), floored at the minimum, infinite at rest; no other
field and no other axis changes (43_profile.md R165–R169). -/
def Obligations.ProfileRampsVelocity : Prop :=
  ∀ (s : State) (a : Axis), ∃ t, exec (.profile a) s = .next t ∧ t = { s with axes := t.axes } ∧
    (∀ b, b ≠ a → t.axis b = s.axis b) ∧
    let x := s.axis a
    let y := t.axis a
    let speed : Nat := (s.settings a).speed.toNat * 1000000
    let move : Nat := (s.settings a).accel.toNat * ((s.time.toNat + 2 ^ 64 - x.lvel.toNat) % 2 ^ 64)
    y = { x with vel := y.vel, lvel := s.time, inf := y.inf, ivl := y.ivl } ∧
    (y.vel.toNat : Int) =
      (if x.vel.toNat < speed then min ((x.vel.toNat : Int) + move) speed
       else if speed < x.vel.toNat then max ((x.vel.toNat : Int) - move) speed
       else x.vel.toNat) ∧
    (y.inf = true ↔ y.vel.toNat = 0) ∧ (y.inf = true → y.ivl = 0) ∧
    (y.inf = false → ∃ q : Nat, 60000000000000 ≤ q * (y.vel.toNat * Config.params.ppr) ∧
      (∀ r : Nat, 60000000000000 ≤ r * (y.vel.toNat * Config.params.ppr) → q ≤ r) ∧
      y.ivl.toNat = max Config.params.minStepIntervalUs q)

/-- Replacing the settings makes no velocity jump: the first PROFILE after a COMMIT changes the velocity by at most the new
acceleration times the time since the COMMIT (43_profile.md R173). -/
def Obligations.ReplacementKeepsVelocity : Prop :=
  ∀ (s : State) (a : Axis) (n : Time), n ≠ 0 →
    ∃ t u v, exec .commit s = .next t ∧ exec (.advance n) t = .next u ∧ exec (.profile a) u = .next v ∧
      (v.axis a).vel.toNat ≤ (s.axis a).vel.toNat + (s.shadow.axes.get a).accel.toNat * n.toNat ∧
      (s.axis a).vel.toNat ≤ (v.axis a).vel.toNat + (s.shadow.axes.get a).accel.toNat * n.toNat

/-- After every event a velocity is at most the greater of what it was and the active speed (10_state.md R41). -/
def Obligations.VelocityRange : Prop :=
  ∀ (s t : State) (a : Axis), step s = .next t →
    (t.axis a).vel.toNat ≤ max (s.axis a).vel.toNat ((s.settings a).speed.toNat * 1000000)

/-! ### The step stage and the pulse -/

/-- STEP: the target is clamped into the travel range and written back; inside the dead band the velocity is forced to 0 and the
direction kept; outside it the direction is set, and where the finite interval has passed since the last step one pulse
starts and the position moves by one toward the target, with the edge times that EmitPulse gives (R190; modulo 2^64 at the
wrap of TIME, which is the model's reading, log 15). No other axis changes (44_step.md R181–R188, R190). -/
def Obligations.StepMovesAxis : Prop :=
  ∀ (s : State) (a : Axis), ∃ t, exec (.step a) s = .next t ∧ t = { s with axes := t.axes } ∧
    (∀ b, b ≠ a → t.axis b = s.axis b) ∧
    let x := s.axis a
    let y := t.axis a
    let lo : Int := -((s.settings a).limit.toNat : Int)
    let hi : Int := if a = .transmission then s.active.fwd.toNat else (s.settings a).limit.toNat
    let delta : Int := y.tgt.toInt - x.pos.toInt
    let level : Bool := if a = .throttle ∨ a = .brake then decide (delta < 0) else decide (0 < delta)
    y.tgt.toInt = min (max x.tgt.toInt lo) hi ∧
    (delta.natAbs < Config.params.deadBand → y = { x with tgt := y.tgt, vel := 0, inf := true, ivl := 0 }) ∧
    (Config.params.deadBand ≤ delta.natAbs →
      x.inf = false → x.ivl.toNat ≤ (s.time.toNat + 2 ^ 64 - x.lstep.toNat) % 2 ^ 64 →
        y.pos.toInt = x.pos.toInt + (if 0 < delta then 1 else -1) ∧
        y = { x with
              tgt := y.tgt, pos := y.pos, lstep := s.time, dir := level
              pstart := s.time + Config.params.dirSetupUs.setWidth 64
              pend := s.time + Config.params.dirSetupUs.setWidth 64 + BitVec.ofNat 64 Config.params.pulseWidthUs }) ∧
    (Config.params.deadBand ≤ delta.natAbs →
      x.inf = true ∨ (s.time.toNat + 2 ^ 64 - x.lstep.toNat) % 2 ^ 64 < x.ivl.toNat →
        y = { x with tgt := y.tgt, dir := level })

/-- STEP never takes a position out of its travel range: it stays between the old position and the range's ends, and where it
moves it moves by one toward the clamped target, with no wrap (44_step.md R189). -/
def Obligations.StepStaysInTravelRange : Prop :=
  ∀ (s t : State) (a : Axis), exec (.step a) s = .next t →
    let lo : Int := -((s.settings a).limit.toNat : Int)
    let hi : Int := if a = .transmission then s.active.fwd.toNat else (s.settings a).limit.toNat
    min (s.axis a).pos.toInt lo ≤ (t.axis a).pos.toInt ∧ (t.axis a).pos.toInt ≤ max (s.axis a).pos.toInt hi ∧
    ((t.axis a).pos.toInt - (s.axis a).pos.toInt).natAbs ≤ 1 ∧
    ((t.axis a).pos ≠ (s.axis a).pos →
      ((t.axis a).tgt.toInt - (t.axis a).pos.toInt).natAbs + 1 = ((t.axis a).tgt.toInt - (s.axis a).pos.toInt).natAbs)

/-- EmitPulse sets the direction at once and schedules the strobe: short of the wrap of TIME, the step output is high exactly
from `now + DIR_SETUP_US` for `PULSE_WIDTH_US`; nothing else changes (44_step.md R190, R191; the times modulo 2^64 at the
wrap are the model's reading, log 15). -/
def Obligations.EmitPulseSchedulesStrobe : Prop :=
  ∀ (s : State) (a : Axis) (d : Bool), ∃ t, exec (.emitPulse a d) s = .next t ∧ t = { s with axes := t.axes } ∧
    (∀ b, b ≠ a → t.axis b = s.axis b) ∧
    t.axis a = { s.axis a with dir := d, pstart := (t.axis a).pstart, pend := (t.axis a).pend } ∧
    let rise : Nat := s.time.toNat + Config.params.dirSetupUs.toNat
    (t.axis a).pstart.toNat = rise % 2 ^ 64 ∧
    (t.axis a).pend.toNat = (rise + Config.params.pulseWidthUs) % 2 ^ 64 ∧
    (rise + Config.params.pulseWidthUs < 2 ^ 64 →
      ∀ T : Time, (t.axis a).stepLevel T = true ↔ rise ≤ T.toNat ∧ T.toNat < rise + Config.params.pulseWidthUs)

/-! ### Calibration -/

/-- CAL_STEP while seeking: the switch is tested first, then the budget, then a step toward the switch is due or not. A failure
is recorded, releases the axis and passes to the next one, leaving position, target and velocity (45_calibration.md
R203–R207, R210–R214). -/
def Obligations.CalibrationSeeks : Prop :=
  ∀ (s : State) (sw1 sw2 : Bool), s.calActive = true → s.calPhase = .seeking →
    let level := match s.calAxis with | .throttle => sw1 | .brake => sw2
    let period : Nat := (s.time.toNat + 2 ^ 64 - s.calLast.toNat) % 2 ^ 64
    (level = false → exec (.calStep sw1 sw2) s = .next
      { s with calPhase := .backingOff, calTtrig := s.time, calCount := 0 }) ∧
    (level = true → Config.params.calStepBudget.toNat ≤ s.calCount.toNat → s.calAxis = .throttle →
      ∃ t, exec (.calStep sw1 sw2) s = .next t ∧
        t = { s with axes := t.axes, calResThrottle := .fail, calAxis := .brake, calPhase := .seeking, calCount := 0 } ∧
        ∀ a, t.axis a = if a = .throttle then { s.axis a with lvel := s.time } else s.axis a) ∧
    (level = true → Config.params.calStepBudget.toNat ≤ s.calCount.toNat → s.calAxis = .brake →
      ∃ t, exec (.calStep sw1 sw2) s = .next t ∧
        t = { s with axes := t.axes, calResBrake := .fail, calActive := false, calPhase := .idle, calCount := 0 } ∧
        ∀ a, t.axis a = if a = .brake then { s.axis a with lvel := s.time } else s.axis a) ∧
    (level = true → s.calCount.toNat < Config.params.calStepBudget.toNat →
      Config.params.calStepPeriodUs.toNat ≤ period →
      ∃ t, exec (.emitPulse s.calAxis.axis true) s = .next t ∧
        exec (.calStep sw1 sw2) s = .next { t with calCount := s.calCount + 1, calLast := s.time }) ∧
    (level = true → s.calCount.toNat < Config.params.calStepBudget.toNat →
      period < Config.params.calStepPeriodUs.toNat → exec (.calStep sw1 sw2) s = .next s)

/-- CAL_STEP while backing off: nothing during the debounce pause; when the steps are made DONE zeroes position, target and
velocity, records OK, releases the axis and passes on; else a step away from the switch is due or not. The switch is not
read (45_calibration.md R203, R208–R211, R213). -/
def Obligations.CalibrationBacksOff : Prop :=
  ∀ (s : State) (sw1 sw2 : Bool), s.calActive = true → s.calPhase = .backingOff →
    let pause : Nat := (s.time.toNat + 2 ^ 64 - s.calTtrig.toNat) % 2 ^ 64
    let period : Nat := (s.time.toNat + 2 ^ 64 - s.calLast.toNat) % 2 ^ 64
    (pause < Config.params.calDebounceUs.toNat → exec (.calStep sw1 sw2) s = .next s) ∧
    (Config.params.calDebounceUs.toNat ≤ pause → Config.params.calBackoffSteps.toNat ≤ s.calCount.toNat →
      s.calAxis = .throttle →
      ∃ t, exec (.calStep sw1 sw2) s = .next t ∧
        t = { s with axes := t.axes, calResThrottle := .ok, calAxis := .brake, calPhase := .seeking, calCount := 0 } ∧
        ∀ a, t.axis a = if a = .throttle then
          { s.axis a with pos := 0, tgt := 0, vel := 0, inf := true, ivl := 0, lvel := s.time } else s.axis a) ∧
    (Config.params.calDebounceUs.toNat ≤ pause → Config.params.calBackoffSteps.toNat ≤ s.calCount.toNat →
      s.calAxis = .brake →
      ∃ t, exec (.calStep sw1 sw2) s = .next t ∧
        t = { s with axes := t.axes, calResBrake := .ok, calActive := false, calPhase := .idle, calCount := 0 } ∧
        ∀ a, t.axis a = if a = .brake then
          { s.axis a with pos := 0, tgt := 0, vel := 0, inf := true, ivl := 0, lvel := s.time } else s.axis a) ∧
    (Config.params.calDebounceUs.toNat ≤ pause → s.calCount.toNat < Config.params.calBackoffSteps.toNat →
      Config.params.calStepPeriodUs.toNat ≤ period →
      ∃ t, exec (.emitPulse s.calAxis.axis false) s = .next t ∧
        exec (.calStep sw1 sw2) s = .next { t with calCount := s.calCount + 1, calLast := s.time }) ∧
    (Config.params.calDebounceUs.toNat ≤ pause → s.calCount.toNat < Config.params.calBackoffSteps.toNat →
      period < Config.params.calStepPeriodUs.toNat → exec (.calStep sw1 sw2) s = .next s)

/-- An inactive sequencer does nothing (45_calibration.md R203). -/
def Obligations.CalibrationInactive : Prop :=
  ∀ (s : State) (sw1 sw2 : Bool), s.calActive = false → exec (.calStep sw1 sw2) s = .next s

/-- The axis that is held when a tick has ended was skipped by it: velocity, interval, both timestamps and the position are
what they were (43_profile.md R172, 44_step.md R193, 45_calibration.md R202, R212, R213). -/
def Obligations.HeldAxisIsSkipped : Prop :=
  ∀ (s : State) (sw1 sw2 : Bool) (a : Axis), s.pulseBusy = false →
    ∃ t, exec (.tick sw1 sw2) s = .next t ∧
      (t.held a = true → (t.axis a).vel = (s.axis a).vel ∧ (t.axis a).inf = (s.axis a).inf ∧
        (t.axis a).ivl = (s.axis a).ivl ∧ (t.axis a).lvel = (s.axis a).lvel ∧ (t.axis a).lstep = (s.axis a).lstep ∧
        (t.axis a).pos = (s.axis a).pos)

/-! ### The tick and time -/

/-- A TICK while a pulse is in flight is held and changes nothing else, and its levels are not kept (46_control_loop.md R229,
10_state.md R56; that every such request is held, and the levels, are log 3 and 4). -/
def Obligations.TickHeldDuringPulse : Prop :=
  ∀ (s : State) (sw1 sw2 : Bool) (a : Axis), s.time.toNat < (s.axis a).pend.toNat →
    exec (.tick sw1 sw2) s = .next { s with heldTicks := s.heldTicks + 1 }

/-- A TICK while the loop is stopped has no effect at all (46_control_loop.md R228). -/
def Obligations.StoppedTickHasNoEffect : Prop :=
  ∀ (s : State) (sw1 sw2 : Bool), s.pulseBusy = false → s.run = false → exec (.tick sw1 sw2) s = .next s

/-- An admitted TICK of a running block is its stages in their order: PARSE, FAILSAFE, MIX only on a delivered frame with a
valid signal, CAL_STEP, then for each axis in ascending order PROFILE and STEP unless the axis is held after CAL_STEP
(46_control_loop.md R228, R231). The answers the stages give when run alone stay inside the tick (log 6). -/
def Obligations.TickRunsItsStages : Prop :=
  ∀ (s : State) (sw1 sw2 : Bool), s.pulseBusy = false → s.run = true →
    ∃ s₁ s₂ s₃ s₄ : State, ∃ p q : Axis → State,
      exec .parse s = .next s₁ ∧
      exec (.failsafe (decide (s₁.result = 1))) s₁ = .next s₂ ∧
      (if s₁.result = 1 ∧ s₂.result = 1 then exec .mix s₂ = .next s₃ else s₃ = s₂) ∧
      exec (.calStep sw1 sw2) s₃ = .next s₄ ∧
      (∀ a, let before := match a with
              | .steering => s₄
              | .throttle => q .steering
              | .brake => q .throttle
              | .transmission => q .brake
        if s₄.held a then q a = before
        else exec (.profile a) before = .next (p a) ∧ exec (.step a) (p a) = .next (q a)) ∧
      exec (.tick sw1 sw2) s = .next { q .transmission with result := s.result }

/-- A tick that delivers a frame whose signal is lost, while no calibration runs and the signal was valid: `CONN_LOST` is set,
`SAFE_CNT` counts, and the tick's mixing is suppressed, so the targets are the safe ones and the transmission's only its
clamped old one (41_failsafe.md R141, R143, R146). -/
def Obligations.LostSignalSuppressesMixing : Prop :=
  ∀ (s : State) (sw1 sw2 : Bool) (ch : Vector (BitVec 16) 10) (pad : Vector Byte 8) (rest : List Byte),
    s.pulseBusy = false → s.run = true → s.calActive = false → s.connLost = false →
    s.rxBuf = frameBytes ch pad (checksum (frameBody ch pad)) ++ rest → ch[6].toNat < 800 →
    ∃ t, exec (.tick sw1 sw2) s = .next t ∧ t.connLost = true ∧ t.safeCnt = s.safeCnt + 1 ∧
      t.firstDone = s.firstDone ∧ t.ch = ch ∧ t.rxBuf = rest ∧ t.frameCnt = s.frameCnt + 1 ∧
      (t.axis .steering).tgt = 0 ∧ (t.axis .throttle).tgt = 0 ∧
      (t.axis .brake).tgt.toInt = (s.settings .brake).limit.toNat ∧
      (t.axis .transmission).tgt.toInt =
        min (max (s.axis .transmission).tgt.toInt (-((s.settings .transmission).limit.toNat : Int))) s.active.fwd.toNat

/-- A tick that delivers a frame with a valid signal, while no calibration runs: `CONN_LOST` is clear, no safe-mode entry is
counted, the pin is done, and mixing resumes in this very tick: the targets are MIX's, clamped
(41_failsafe.md R142, R146; 42_mixer.md R150, 44_step.md R182). -/
def Obligations.ValidSignalMixes : Prop :=
  ∀ (s : State) (sw1 sw2 : Bool) (ch : Vector (BitVec 16) 10) (pad : Vector Byte 8) (rest : List Byte),
    s.pulseBusy = false → s.run = true → s.calActive = false →
    s.rxBuf = frameBytes ch pad (checksum (frameBody ch pad)) ++ rest → 800 ≤ ch[6].toNat →
    ∃ t m, exec (.tick sw1 sw2) s = .next t ∧ exec .mix { s with ch := ch } = .next m ∧
      t.connLost = false ∧ t.safeCnt = s.safeCnt ∧ t.firstDone = true ∧ t.ch = ch ∧ t.rxBuf = rest ∧
      ∀ a, (t.axis a).tgt.toInt =
        min (max (m.axis a).tgt.toInt (-((s.settings a).limit.toNat : Int)))
          (if a = .transmission then (s.active.fwd.toNat : Int) else (s.settings a).limit.toNat)

/-- Silence never loses the signal: a tick that finds no valid frame changes neither `CONN_LOST` nor a counter of frames or
safe-mode entries, nor the channels, nor the pin, and with no calibration running every target is only clamped: the last
targets stay in force (41_failsafe.md R145, 46_control_loop.md R232). -/
def Obligations.SilenceKeepsSignalState : Prop :=
  ∀ (s : State) (sw1 sw2 : Bool), s.pulseBusy = false → s.run = true →
    (∀ i, i + 32 ≤ s.rxBuf.length → frameValid (s.rxBuf.drop i) = false) →
    ∃ t, exec (.tick sw1 sw2) s = .next t ∧ t.connLost = s.connLost ∧ t.safeCnt = s.safeCnt ∧ t.ch = s.ch ∧
      t.frameCnt = s.frameCnt ∧ t.firstDone = s.firstDone ∧
      (s.calActive = false → ∀ a, (t.axis a).tgt.toInt =
        min (max (s.axis a).tgt.toInt (-((s.settings a).limit.toNat : Int)))
          (if a = .transmission then (s.active.fwd.toNat : Int) else (s.settings a).limit.toNat))

/-- After an admitted tick of a running block every axis not held has its target within its travel range, and the settings, the
time, the run flag, the sticky flags and the requested events are what they were (44_step.md R182, 46_control_loop.md
R228, 10_state.md R31, R32, R35, R48). -/
def Obligations.TickClampsTargets : Prop :=
  ∀ (s : State) (sw1 sw2 : Bool), s.pulseBusy = false → s.run = true →
    ∃ t, exec (.tick sw1 sw2) s = .next t ∧
      (∀ a, t.held a = false → -((s.settings a).limit.toNat : Int) ≤ (t.axis a).tgt.toInt ∧
        (t.axis a).tgt.toInt ≤ if a = .transmission then (s.active.fwd.toNat : Int) else (s.settings a).limit.toNat) ∧
      t.shadow = s.shadow ∧ t.active = s.active ∧ t.time = s.time ∧ t.run = s.run ∧ t.rxOvf = s.rxOvf ∧
      t.linkFail = s.linkFail ∧ t.badCmd = s.badCmd ∧ t.heldTicks = s.heldTicks ∧ t.inputs = s.inputs ∧
      t.result = s.result

/-- ADVANCE(n), n ≥ 1, adds n to TIME modulo 2^64 and changes no other stored state; the step outputs and `PULSE_BUSY` follow
TIME (46_control_loop.md R227). -/
def Obligations.AdvanceMovesOnlyTime : Prop :=
  ∀ (s : State) (n : Time), n ≠ 0 →
    ∃ t, exec (.advance n) s = .next t ∧ t = { s with time := t.time } ∧
      t.time.toNat = (s.time.toNat + n.toNat) % 2 ^ 64 ∧
      (∀ a, (t.axis a).stepLevel t.time = true ↔
        (s.axis a).pstart.toNat ≤ t.time.toNat ∧ t.time.toNat < (s.axis a).pend.toNat) ∧
      ((regValue t 0x02).getLsbD 4 = true ↔ ∃ a, t.time.toNat < (s.axis a).pend.toNat)

/-! ### Rules of the whole machine -/

/-- Every step keeps the invariant: a velocity is 0 exactly when its interval is infinite, an infinite interval is stored 0 and
a finite one is not below the floor, no velocity passes 65535 rpm, the steering speeds are under their ceiling, the receive
buffer is within its depth, and the calibration's phase agrees with its activity and its count with the phase's bound
(44_step.md R184; 10_state.md R37, R41, R42, R47, R48, R50; 43_profile.md R168; 45_calibration.md R206, R208). -/
def Obligations.StepKeepsInvariant : Prop :=
  ∀ s t : State, s.Inv Config.params → step s = .next t → t.Inv Config.params

/-- The state after RESET meets the invariant (70_reset_and_hazards.md R301). -/
def Obligations.ResetMeetsInvariant : Prop :=
  State.reset.Inv Config.params

/-- The active settings change only by COMMIT, or by RESET (10_state.md R48, 70_reset_and_hazards.md R307). -/
def Obligations.OnlyCommitChangesActiveSettings : Prop :=
  ∀ s t : State, step s = .next t → t.active ≠ s.active →
    ∃ e rest, s.inputs = e :: rest ∧ (decode e = .ok .commit ∧ t.active = s.shadow ∨ decode e = .ok .reset)

/-- TIME changes only by ADVANCE, or by RESET (10_state.md R31). -/
def Obligations.OnlyAdvanceMovesTime : Prop :=
  ∀ s t : State, step s = .next t → t.time ≠ s.time →
    ∃ e rest, s.inputs = e :: rest ∧ ((∃ n, decode e = .ok (.advance n) ∧ t.time = s.time + n) ∨ decode e = .ok .reset)

/-- The channels change only with a delivered frame, all ten together from one valid window of the buffer, which is counted;
or by RESET (40_framer.md R127, R128; 10_state.md R38). -/
def Obligations.ChannelsChangeOnlyWithAFrame : Prop :=
  ∀ s t : State, step s = .next t → t.ch ≠ s.ch →
    (∃ e rest, s.inputs = e :: rest ∧ decode e = .ok .reset) ∨
    (s.run = true ∧ t.frameCnt = s.frameCnt + 1 ∧ ∃ n, n + 32 ≤ s.rxBuf.length ∧
      frameValid (s.rxBuf.drop n) = true ∧ t.ch = channelsOf (s.rxBuf.drop n) ∧ t.rxBuf = s.rxBuf.drop (n + 32))

/-- While a pulse of an axis is in flight no event but SHUTDOWN and RESET changes the axis's direction, and none but RESET its
pulse: no tick changes `DIR[a]` while `STEP[a]` is high or in its setup time (46_control_loop.md R229,
70_reset_and_hazards.md R314). -/
def Obligations.DirectionStableDuringPulse : Prop :=
  ∀ (s t : State) (a : Axis), step s = .next t → s.time.toNat < (s.axis a).pend.toNat →
    (∃ e rest, s.inputs = e :: rest ∧ decode e = .ok .reset) ∨
    ((t.axis a).pstart = (s.axis a).pstart ∧ (t.axis a).pend = (s.axis a).pend ∧
      ((t.axis a).dir = (s.axis a).dir ∨ ∃ e rest, s.inputs = e :: rest ∧ decode e = .ok .shutdown))

/-- `RUN` changes only by START with the transport present and by SHUTDOWN; `CONN_LOST` only in a tick that delivers a frame, to
whether its channel 6 is below 800; `FIRST_DONE` only becomes 1, in a tick that delivers a frame whose signal is valid and so
mixes; `RX_OVF` is set only by a received byte that finds the buffer full, `LINK_FAIL` only by START without the transport,
`BAD_CMD` only by a reserved command, and each of the three is cleared only by CLEAR_STICKY; all but for RESET
(10_state.md R32–R35, 40_framer.md R122, 41_failsafe.md R141, 42_mixer.md R151, 47_host_interface.md R259–R261, R263,
60_exceptions.md R277; FRAME as 32 received bytes: log 8). -/
def Obligations.FlagsHaveTheirWriters : Prop :=
  ∀ s t : State, step s = .next t →
    let takes (i : Instr) : Prop := ∃ e rest, s.inputs = e :: rest ∧ decode e = .ok i
    let tickWithFrame : Prop := s.run = true ∧ s.pulseBusy = false ∧ t.frameCnt = s.frameCnt + 1 ∧
      (0 < s.heldTicks ∨ ∃ sw1 sw2, takes (.tick sw1 sw2))
    takes .reset ∨
    ((t.run ≠ s.run → takes (.start true) ∧ t.run = true ∨ takes .shutdown ∧ t.run = false) ∧
     (t.connLost ≠ s.connLost → tickWithFrame ∧ t.connLost = decide (t.ch[6].toNat < 800)) ∧
     (t.firstDone ≠ s.firstDone → tickWithFrame ∧ t.firstDone = true ∧ t.connLost = false ∧ 800 ≤ t.ch[6].toNat) ∧
     (t.rxOvf ≠ s.rxOvf →
       takes .clearSticky ∧ t.rxOvf = false ∨
       t.rxOvf = true ∧ s.run = true ∧
         ((∃ b, takes (.rxByte b) ∧ Config.params.rxbufDepth ≤ s.rxBuf.length) ∨
          ∃ ch pad ck, takes (.frame ch pad ck) ∧ Config.params.rxbufDepth < s.rxBuf.length + 32)) ∧
     (t.linkFail ≠ s.linkFail →
       takes .clearSticky ∧ t.linkFail = false ∨ takes (.start false) ∧ s.run = false ∧ t.linkFail = true) ∧
     (t.badCmd ≠ s.badCmd →
       takes .clearSticky ∧ t.badCmd = false ∨ (∃ opc, takes (.reservedCmd opc)) ∧ t.badCmd = true))
end

