-- ==== Sys2Proof/Laws/Decode.lean ====
section
/-! SUPPORT. What decoding and encoding do, field by field: the bus word, the levels, the bytes of a frame. -/

namespace Sys2Proof

/-! ### The bus word -/

/-- The number a bus word is. -/
theorem busWord_toNat (w : Bool) (a : Addr) (d : Word) :
    (busWord w a d).toNat = w.toNat * 2 ^ 40 + a.toNat * 2 ^ 32 + d.toNat := by
  have ha := a.isLt
  have hd := d.isLt
  have hw : w.toNat ≤ 1 := Bool.toNat_le w
  simp only [busWord, BitVec.toNat_ofNat]
  omega

@[simp] theorem busIsWrite_busWord (w : Bool) (a : Addr) (d : Word) : busIsWrite (busWord w a d) = w := by
  have ha := a.isLt
  have hd := d.isLt
  simp only [busIsWrite, BitVec.getLsbD, busWord_toNat, Nat.testBit_eq_decide_div_mod_eq]
  cases w <;> simp <;> omega

theorem busAddr_arith (w a d : Nat) (ha : a < 256) (hd : d < 4294967296) :
    (w * 1099511627776 + a * 4294967296 + d) / 4294967296 % 256 = a := by omega

theorem busData_arith (w a d : Nat) (hd : d < 4294967296) :
    (w * 1099511627776 + a * 4294967296 + d) % 4294967296 = d := by omega

@[simp] theorem busAddr_busWord (w : Bool) (a : Addr) (d : Word) : busAddr (busWord w a d) = a := by
  apply BitVec.eq_of_toNat_eq
  rw [busAddr, BitVec.extractLsb'_toNat, busWord_toNat, Nat.shiftRight_eq_div_pow]
  exact busAddr_arith _ _ _ a.isLt d.isLt

@[simp] theorem busData_busWord (w : Bool) (a : Addr) (d : Word) : busData (busWord w a d) = d := by
  apply BitVec.eq_of_toNat_eq
  rw [busData, BitVec.extractLsb'_toNat, busWord_toNat, Nat.shiftRight_zero]
  exact busData_arith _ _ _ d.isLt

@[simp] theorem opcodeOf_setWidth (opc : BitVec 8) : opcodeOf (opc.setWidth 32) = opc := by
  have h := opc.isLt
  apply BitVec.eq_of_toNat_eq
  simp only [opcodeOf, BitVec.extractLsb'_toNat, BitVec.toNat_setWidth, Nat.shiftRight_zero]
  omega

/-! ### Levels -/

@[simp] theorem decodeLevel_toNat (b : Bool) : decodeLevel b.toNat = .ok b := by cases b <;> rfl

/-- A level decodes only from 0 or 1, to that level. -/
theorem decodeLevel_ok {n : Nat} {b : Bool} (h : decodeLevel n = .ok b) : n = b.toNat := by
  match n, h with
  | 0, h => cases h; rfl
  | 1, h => cases h; rfl
  | _ + 2, h => cases h

/-! ### Commands -/

/-- An opcode of 7 or more is the reserved command (30_encoding.md R102). -/
theorem decodeCommand_reserved {opc : BitVec 8} {l : Bool} (h : 7 ≤ opc.toNat) :
    decodeCommand opc l = .reservedCmd opc := by
  unfold decodeCommand
  split <;> first | omega | rfl

/-- Every command is a well-formed instruction of the BUS format. -/
theorem decodeCommand_wellFormed (opc : BitVec 8) (l : Bool) :
    (decodeCommand opc l).wellFormed = true ∧ (decodeCommand opc l).format = .bus := by
  unfold decodeCommand
  split <;> simp_all [Instr.wellFormed, Instr.format]

/-! ### The frame -/

@[simp] theorem le16_lo_hi (v : BitVec 16) : le16 (loByte v) (hiByte v) = v := by
  have h := v.isLt
  apply BitVec.eq_of_toNat_eq
  simp only [le16, loByte, hiByte, BitVec.toNat_ofNat, BitVec.extractLsb'_toNat, Nat.shiftRight_eq_div_pow]
  omega

@[simp] theorem frameBody_length (ch : Vector (BitVec 16) 10) (pad : Vector Byte 8) :
    (frameBody ch pad).length = 30 := rfl

@[simp] theorem frameBytes_length (ch : Vector (BitVec 16) 10) (pad : Vector Byte 8) (ck : BitVec 16) :
    (frameBytes ch pad ck).length = 32 := rfl

@[simp] theorem headerMatch_frameBytes (ch : Vector (BitVec 16) 10) (pad : Vector Byte 8) (ck : BitVec 16)
    (rest : List Byte) : headerMatch (frameBytes ch pad ck ++ rest) = true := rfl

@[simp] theorem rxck_frameBytes (ch : Vector (BitVec 16) 10) (pad : Vector Byte 8) (ck : BitVec 16)
    (rest : List Byte) : rxck (frameBytes ch pad ck ++ rest) = ck := by
  show le16 (loByte ck) (hiByte ck) = ck
  simp

/-- The checksum reads bytes 0–29 only (30_encoding.md R96). -/
theorem checksum_frameBytes (ch : Vector (BitVec 16) 10) (pad : Vector Byte 8) (ck : BitVec 16) (rest : List Byte) :
    checksum (frameBytes ch pad ck ++ rest) = checksum (frameBody ch pad) := rfl

/-- The channels of a frame's bytes are its channels (30_encoding.md R98). -/
@[simp] theorem channelsOf_frameBytes (ch : Vector (BitVec 16) 10) (pad : Vector Byte 8) (ck : BitVec 16)
    (rest : List Byte) : channelsOf (frameBytes ch pad ck ++ rest) = ch := by
  ext k hk
  have h : k = 0 ∨ k = 1 ∨ k = 2 ∨ k = 3 ∨ k = 4 ∨ k = 5 ∨ k = 6 ∨ k = 7 ∨ k = 8 ∨ k = 9 := by omega
  rcases h with rfl | rfl | rfl | rfl | rfl | rfl | rfl | rfl | rfl | rfl <;>
    exact congrArg (fun v : BitVec 16 => v[_]) (le16_lo_hi _)

/-- The pad bytes of a frame's bytes are its pad bytes (30_encoding.md R111). -/
@[simp] theorem padOf_frameBytes (ch : Vector (BitVec 16) 10) (pad : Vector Byte 8) (ck : BitVec 16)
    (rest : List Byte) : padOf (frameBytes ch pad ck ++ rest) = pad := by
  ext k hk
  have h : k = 0 ∨ k = 1 ∨ k = 2 ∨ k = 3 ∨ k = 4 ∨ k = 5 ∨ k = 6 ∨ k = 7 := by omega
  rcases h with rfl | rfl | rfl | rfl | rfl | rfl | rfl | rfl <;> rfl

/-- A frame with the checksum of its own body is valid, whatever follows it (30_encoding.md R97). -/
theorem frameValid_frameBytes (ch : Vector (BitVec 16) 10) (pad : Vector Byte 8) (rest : List Byte) :
    frameValid (frameBytes ch pad (checksum (frameBody ch pad)) ++ rest) = true := by
  simp [frameValid, checksum_frameBytes]

end Sys2Proof
end

