-- ==== Sys2Proof/Laws/Flags.lean ====
section
/-! SUPPORT. The bits of the flag words and the numbers of the fields a register word is built from. -/

namespace Sys2Proof.Machine

/-- Bit k of a one-flag word. -/
theorem flagBit_getLsbD (b : Bool) {i : Nat} (k : Nat) (hi : i < 32) :
    (flagBit b i).getLsbD k = (decide (k = i) && b) := by
  unfold flagBit
  rw [BitVec.getLsbD_shiftLeft]
  by_cases h : k < 32
  · by_cases h₂ : k < i
    · have : k ≠ i := by omega
      simp [h₂, this]
    · rw [BitVec.getLsbD_setWidth, BitVec.getLsbD_ofBool]
      have h₃ : (k - i = 0) ↔ k = i := by omega
      have h₄ : k - i < 32 := by omega
      simp [h, h₂, h₃, h₄]
  · have : k ≠ i := by omega
    simp [h, this]

/-- Bit k of STATUS (10_state.md R53). -/
theorem statusWord_getLsbD (s : State) (k : Nat) :
    (statusWord s).getLsbD k =
      (decide (k = 0) && s.run || decide (k = 1) && s.connLost || decide (k = 2) && s.firstDone ||
        decide (k = 3) && s.calActive || decide (k = 4) && s.pulseBusy || decide (k = 8) && s.rxOvf ||
        decide (k = 9) && s.linkFail || decide (k = 10) && s.badCmd) := by
  simp only [statusWord, BitVec.getLsbD_or, flagBit_getLsbD _ _ (show 0 < 32 by decide),
    flagBit_getLsbD _ _ (show 1 < 32 by decide), flagBit_getLsbD _ _ (show 2 < 32 by decide),
    flagBit_getLsbD _ _ (show 3 < 32 by decide), flagBit_getLsbD _ _ (show 4 < 32 by decide),
    flagBit_getLsbD _ _ (show 8 < 32 by decide), flagBit_getLsbD _ _ (show 9 < 32 by decide),
    flagBit_getLsbD _ _ (show 10 < 32 by decide)]

/-- Bit k of AXa_OUT (10_state.md R46). -/
theorem outWord_getLsbD (s : State) (a : Axis) (k : Nat) :
    (outWord s a).getLsbD k =
      (decide (k = 0) && (s.axis a).dir || decide (k = 1) && (s.axis a).stepLevel s.time ||
        decide (k = 2) && s.held a) := by
  simp only [outWord, BitVec.getLsbD_or, flagBit_getLsbD _ _ (show 0 < 32 by decide),
    flagBit_getLsbD _ _ (show 1 < 32 by decide), flagBit_getLsbD _ _ (show 2 < 32 by decide)]

/-- A zero-extended field is the field's number (30_encoding.md R105). -/
theorem setWidth32_toNat {n : Nat} (x : BitVec n) (h : n ≤ 32) : (x.setWidth 32).toNat = x.toNat := by
  rw [BitVec.toNat_setWidth]
  exact Nat.mod_eq_of_lt (lt_of_lt_of_le x.isLt (Nat.pow_le_pow_right (by decide) h))

/-- A zero-extended field has no bit above its width. -/
theorem setWidth32_getLsbD_high {n : Nat} (x : BitVec n) {k : Nat} (hk : n ≤ k) : (x.setWidth 32).getLsbD k = false := by
  rw [BitVec.getLsbD_setWidth, BitVec.getLsbD_of_ge _ _ hk]
  simp

end Sys2Proof.Machine
end

