-- ==== Sys2Proof/Laws/Operands.lean ====
section
/-! SUPPORT. The register map, block by block (spec/20_memory.md R76, spec/30_encoding.md R104), and what a store leaves. -/

namespace Sys2Proof.Machine

theorem regAt_control {n : Nat} (h : n < 0x10) : regAt n = controlReg n := by simp [regAt, h]

theorem regAt_channel (k : Fin 10) : regAt (0x10 + k) = .ch k := by
  have hk := k.isLt
  have h₁ : ¬ 0x10 + (k : Nat) < 0x10 := by omega
  have h₂ : 0x10 + (k : Nat) < 0x20 := by omega
  have h₃ : 0x10 + (k : Nat) < 0x1A := by omega
  simp [regAt, h₁, h₂, h₃]

theorem regAt_channel_gap {n : Nat} (h₁ : 0x1A ≤ n) (h₂ : n < 0x20) : regAt n = .reserved := by
  have h₃ : ¬ n < 0x10 := by omega
  have h₄ : ¬ n < 0x1A := by omega
  simp [regAt, h₂, h₃, h₄]

theorem regAt_shadow {n : Nat} (h₁ : 0x20 ≤ n) (h₂ : n < 0x30) :
    regAt n = shadowReg (axisOfIndex (n % 16 / 4)) (n % 4) := by
  have h₃ : ¬ n < 0x10 := by omega
  have h₄ : ¬ n < 0x20 := by omega
  simp [regAt, h₂, h₃, h₄]

theorem regAt_active {n : Nat} (h₁ : 0x30 ≤ n) (h₂ : n < 0x40) :
    regAt n = activeReg (axisOfIndex (n % 16 / 4)) (n % 4) := by
  have h₃ : ¬ n < 0x10 := by omega
  have h₄ : ¬ n < 0x20 := by omega
  have h₅ : ¬ n < 0x30 := by omega
  simp [regAt, h₂, h₃, h₄, h₅]

theorem regAt_axis {n : Nat} (h₁ : 0x40 ≤ n) (h₂ : n < 0x80) :
    regAt n = axisReg (axisOfIndex ((n - 0x40) / 16)) (n % 16) := by
  have h₃ : ¬ n < 0x10 := by omega
  have h₄ : ¬ n < 0x20 := by omega
  have h₅ : ¬ n < 0x30 := by omega
  have h₆ : ¬ n < 0x40 := by omega
  simp [regAt, h₂, h₃, h₄, h₅, h₆]

theorem regAt_high {n : Nat} (h : 0x80 ≤ n) : regAt n = .reserved := by
  have h₁ : ¬ n < 0x10 := by omega
  have h₂ : ¬ n < 0x20 := by omega
  have h₃ : ¬ n < 0x30 := by omega
  have h₄ : ¬ n < 0x40 := by omega
  have h₅ : ¬ n < 0x80 := by omega
  simp [regAt, h₁, h₂, h₃, h₄, h₅]

/-- The address a stored register stands at; none for a register that no write stores to. -/
def storedAt : Reg → Option Nat
  | .shSpeed a => some (0x20 + 4 * axisIndex a)
  | .shAccel a => some (0x21 + 4 * axisIndex a)
  | .shLimit a => some (0x22 + 4 * axisIndex a)
  | .shFwd => some 0x2F
  | .id | .cmd | .status | .rxLevel | .frameCnt | .dropCnt | .safeCnt | .calStatus | .timeLo | .timeHi | .calCount => none
  | .ch _ | .acSpeed _ | .acAccel _ | .acLimit _ | .acFwd | .axis _ _ | .reserved => none

set_option maxRecDepth 20000 in
/-- Each stored register stands at one address only. -/
theorem storedAt_regAt : ∀ n : Fin 256, storedAt (regAt n) = none ∨ storedAt (regAt n) = some n.val := by decide

/-- A store writes the shadow settings only (20_memory.md R90). -/
theorem storeReg_frame (P : Params) (r : Reg) (d : Word) (s : State) :
    storeReg P r d s = { s with shadow := (storeReg P r d s).shadow } := by cases r <;> rfl

/-- A store to a register that no write stores to has no effect (20_memory.md R77). -/
theorem storeReg_inert (P : Params) {r : Reg} (h : storedAt r = none) (d : Word) (s : State) : storeReg P r d s = s := by
  cases r <;> first | rfl | cases h

/-- A store leaves what every other register reads. -/
theorem regWord_storeReg (P : Params) {r q : Reg} (h : q ≠ r) (d : Word) (s : State) :
    regWord (storeReg P r d s) q = regWord s q := by
  cases r <;> first | rfl | skip
  all_goals
    cases q <;> first | rfl | skip
  all_goals
    first
      | (rename_i a b; cases a <;> cases b <;> first | rfl | exact absurd rfl h)
      | exact absurd rfl h

end Sys2Proof.Machine
end

