-- ==== Sys2Proof/Laws/State.lean ====
section
/-! SUPPORT. One lemma per field per named update of State and of AxisState, each true by unfolding, so that no later proof
unfolds an update. -/

namespace Sys2Proof.Machine

/-! ### PerAxis -/

section PerAxisLaws
variable {α : Type} (v : PerAxis α) (f g : α → α) (a b : Axis)

@[simp] theorem PerAxis.get_steering : v.get .steering = v.steering := rfl
@[simp] theorem PerAxis.get_throttle : v.get .throttle = v.throttle := rfl
@[simp] theorem PerAxis.get_brake : v.get .brake = v.brake := rfl
@[simp] theorem PerAxis.get_transmission : v.get .transmission = v.transmission := rfl

@[simp] theorem PerAxis.get_upd_same : (v.upd a f).get a = f (v.get a) := by cases a <;> rfl

theorem PerAxis.get_upd_ne {a b : Axis} (h : b ≠ a) : (v.upd a f).get b = v.get b := by
  cases a <;> cases b <;> first | rfl | exact absurd rfl h

theorem PerAxis.get_upd : (v.upd a f).get b = if b = a then f (v.get b) else v.get b := by
  cases a <;> cases b <;> rfl

@[simp] theorem PerAxis.get_map : (v.map f).get a = f (v.get a) := by cases a <;> rfl

@[simp] theorem PerAxis.upd_upd : (v.upd a f).upd a g = v.upd a (fun x => g (f x)) := by cases a <;> rfl

theorem PerAxis.ext_get {v w : PerAxis α} (h : ∀ a, v.get a = w.get a) : v = w := by
  obtain ⟨v0, v1, v2, v3⟩ := v
  obtain ⟨w0, w1, w2, w3⟩ := w
  have h0 := h .steering
  have h1 := h .throttle
  have h2 := h .brake
  have h3 := h .transmission
  simp only [PerAxis.get] at h0 h1 h2 h3
  subst h0 h1 h2 h3
  rfl

end PerAxisLaws

/-! ### One axis changed -/

section
variable (s : State) (a : Axis) (f : AxisState → AxisState)

@[simp] theorem State.updAxis_time : (s.updAxis a f).time = s.time := rfl
@[simp] theorem State.updAxis_run : (s.updAxis a f).run = s.run := rfl
@[simp] theorem State.updAxis_connLost : (s.updAxis a f).connLost = s.connLost := rfl
@[simp] theorem State.updAxis_firstDone : (s.updAxis a f).firstDone = s.firstDone := rfl
@[simp] theorem State.updAxis_rxOvf : (s.updAxis a f).rxOvf = s.rxOvf := rfl
@[simp] theorem State.updAxis_linkFail : (s.updAxis a f).linkFail = s.linkFail := rfl
@[simp] theorem State.updAxis_badCmd : (s.updAxis a f).badCmd = s.badCmd := rfl
@[simp] theorem State.updAxis_frameCnt : (s.updAxis a f).frameCnt = s.frameCnt := rfl
@[simp] theorem State.updAxis_dropCnt : (s.updAxis a f).dropCnt = s.dropCnt := rfl
@[simp] theorem State.updAxis_safeCnt : (s.updAxis a f).safeCnt = s.safeCnt := rfl
@[simp] theorem State.updAxis_rxBuf : (s.updAxis a f).rxBuf = s.rxBuf := rfl
@[simp] theorem State.updAxis_ch : (s.updAxis a f).ch = s.ch := rfl
@[simp] theorem State.updAxis_axes : (s.updAxis a f).axes = s.axes.upd a f := rfl
@[simp] theorem State.updAxis_shadow : (s.updAxis a f).shadow = s.shadow := rfl
@[simp] theorem State.updAxis_active : (s.updAxis a f).active = s.active := rfl
@[simp] theorem State.updAxis_calActive : (s.updAxis a f).calActive = s.calActive := rfl
@[simp] theorem State.updAxis_calAxis : (s.updAxis a f).calAxis = s.calAxis := rfl
@[simp] theorem State.updAxis_calPhase : (s.updAxis a f).calPhase = s.calPhase := rfl
@[simp] theorem State.updAxis_calCount : (s.updAxis a f).calCount = s.calCount := rfl
@[simp] theorem State.updAxis_calTtrig : (s.updAxis a f).calTtrig = s.calTtrig := rfl
@[simp] theorem State.updAxis_calLast : (s.updAxis a f).calLast = s.calLast := rfl
@[simp] theorem State.updAxis_calResThrottle : (s.updAxis a f).calResThrottle = s.calResThrottle := rfl
@[simp] theorem State.updAxis_calResBrake : (s.updAxis a f).calResBrake = s.calResBrake := rfl
@[simp] theorem State.updAxis_heldTicks : (s.updAxis a f).heldTicks = s.heldTicks := rfl
@[simp] theorem State.updAxis_inputs : (s.updAxis a f).inputs = s.inputs := rfl
@[simp] theorem State.updAxis_switchSamples : (s.updAxis a f).switchSamples = s.switchSamples := rfl
@[simp] theorem State.updAxis_result : (s.updAxis a f).result = s.result := rfl

end

theorem State.updAxis_axis (s : State) (a b : Axis) (f : AxisState → AxisState) :
    (s.updAxis a f).axis b = if b = a then f (s.axis b) else s.axis b := PerAxis.get_upd s.axes f a b

@[simp] theorem State.updAxis_axis_same (s : State) (a : Axis) (f : AxisState → AxisState) :
    (s.updAxis a f).axis a = f (s.axis a) := PerAxis.get_upd_same s.axes f a

theorem State.updAxis_axis_ne (s : State) {a b : Axis} (f : AxisState → AxisState) (h : b ≠ a) :
    (s.updAxis a f).axis b = s.axis b := PerAxis.get_upd_ne s.axes f h

@[simp] theorem State.updAxis_settings (s : State) (a b : Axis) (f : AxisState → AxisState) :
    (s.updAxis a f).settings b = s.settings b := rfl

@[simp] theorem State.updAxis_held (s : State) (a b : Axis) (f : AxisState → AxisState) :
    (s.updAxis a f).held b = s.held b := rfl

/-! ### The receive buffer -/

section
variable (s : State) (b : Byte)

@[simp] theorem State.rxPush_time : (s.rxPush b).time = s.time := rfl
@[simp] theorem State.rxPush_run : (s.rxPush b).run = s.run := rfl
@[simp] theorem State.rxPush_connLost : (s.rxPush b).connLost = s.connLost := rfl
@[simp] theorem State.rxPush_firstDone : (s.rxPush b).firstDone = s.firstDone := rfl
@[simp] theorem State.rxPush_rxOvf : (s.rxPush b).rxOvf = s.rxOvf := rfl
@[simp] theorem State.rxPush_linkFail : (s.rxPush b).linkFail = s.linkFail := rfl
@[simp] theorem State.rxPush_badCmd : (s.rxPush b).badCmd = s.badCmd := rfl
@[simp] theorem State.rxPush_frameCnt : (s.rxPush b).frameCnt = s.frameCnt := rfl
@[simp] theorem State.rxPush_dropCnt : (s.rxPush b).dropCnt = s.dropCnt := rfl
@[simp] theorem State.rxPush_safeCnt : (s.rxPush b).safeCnt = s.safeCnt := rfl
@[simp] theorem State.rxPush_rxBuf : (s.rxPush b).rxBuf = s.rxBuf ++ [b] := rfl
@[simp] theorem State.rxPush_ch : (s.rxPush b).ch = s.ch := rfl
@[simp] theorem State.rxPush_axes : (s.rxPush b).axes = s.axes := rfl
@[simp] theorem State.rxPush_shadow : (s.rxPush b).shadow = s.shadow := rfl
@[simp] theorem State.rxPush_active : (s.rxPush b).active = s.active := rfl
@[simp] theorem State.rxPush_calActive : (s.rxPush b).calActive = s.calActive := rfl
@[simp] theorem State.rxPush_calAxis : (s.rxPush b).calAxis = s.calAxis := rfl
@[simp] theorem State.rxPush_calPhase : (s.rxPush b).calPhase = s.calPhase := rfl
@[simp] theorem State.rxPush_calCount : (s.rxPush b).calCount = s.calCount := rfl
@[simp] theorem State.rxPush_calTtrig : (s.rxPush b).calTtrig = s.calTtrig := rfl
@[simp] theorem State.rxPush_calLast : (s.rxPush b).calLast = s.calLast := rfl
@[simp] theorem State.rxPush_calResThrottle : (s.rxPush b).calResThrottle = s.calResThrottle := rfl
@[simp] theorem State.rxPush_calResBrake : (s.rxPush b).calResBrake = s.calResBrake := rfl
@[simp] theorem State.rxPush_heldTicks : (s.rxPush b).heldTicks = s.heldTicks := rfl
@[simp] theorem State.rxPush_inputs : (s.rxPush b).inputs = s.inputs := rfl
@[simp] theorem State.rxPush_switchSamples : (s.rxPush b).switchSamples = s.switchSamples := rfl
@[simp] theorem State.rxPush_result : (s.rxPush b).result = s.result := rfl

end

/-! ### The receive buffer, dropped -/

section
variable (s : State) (n : Nat)

@[simp] theorem State.rxDrop_time : (s.rxDrop n).time = s.time := rfl
@[simp] theorem State.rxDrop_run : (s.rxDrop n).run = s.run := rfl
@[simp] theorem State.rxDrop_connLost : (s.rxDrop n).connLost = s.connLost := rfl
@[simp] theorem State.rxDrop_firstDone : (s.rxDrop n).firstDone = s.firstDone := rfl
@[simp] theorem State.rxDrop_rxOvf : (s.rxDrop n).rxOvf = s.rxOvf := rfl
@[simp] theorem State.rxDrop_linkFail : (s.rxDrop n).linkFail = s.linkFail := rfl
@[simp] theorem State.rxDrop_badCmd : (s.rxDrop n).badCmd = s.badCmd := rfl
@[simp] theorem State.rxDrop_frameCnt : (s.rxDrop n).frameCnt = s.frameCnt := rfl
@[simp] theorem State.rxDrop_dropCnt : (s.rxDrop n).dropCnt = s.dropCnt := rfl
@[simp] theorem State.rxDrop_safeCnt : (s.rxDrop n).safeCnt = s.safeCnt := rfl
@[simp] theorem State.rxDrop_rxBuf : (s.rxDrop n).rxBuf = s.rxBuf.drop n := rfl
@[simp] theorem State.rxDrop_ch : (s.rxDrop n).ch = s.ch := rfl
@[simp] theorem State.rxDrop_axes : (s.rxDrop n).axes = s.axes := rfl
@[simp] theorem State.rxDrop_shadow : (s.rxDrop n).shadow = s.shadow := rfl
@[simp] theorem State.rxDrop_active : (s.rxDrop n).active = s.active := rfl
@[simp] theorem State.rxDrop_calActive : (s.rxDrop n).calActive = s.calActive := rfl
@[simp] theorem State.rxDrop_calAxis : (s.rxDrop n).calAxis = s.calAxis := rfl
@[simp] theorem State.rxDrop_calPhase : (s.rxDrop n).calPhase = s.calPhase := rfl
@[simp] theorem State.rxDrop_calCount : (s.rxDrop n).calCount = s.calCount := rfl
@[simp] theorem State.rxDrop_calTtrig : (s.rxDrop n).calTtrig = s.calTtrig := rfl
@[simp] theorem State.rxDrop_calLast : (s.rxDrop n).calLast = s.calLast := rfl
@[simp] theorem State.rxDrop_calResThrottle : (s.rxDrop n).calResThrottle = s.calResThrottle := rfl
@[simp] theorem State.rxDrop_calResBrake : (s.rxDrop n).calResBrake = s.calResBrake := rfl
@[simp] theorem State.rxDrop_heldTicks : (s.rxDrop n).heldTicks = s.heldTicks := rfl
@[simp] theorem State.rxDrop_inputs : (s.rxDrop n).inputs = s.inputs := rfl
@[simp] theorem State.rxDrop_switchSamples : (s.rxDrop n).switchSamples = s.switchSamples := rfl
@[simp] theorem State.rxDrop_result : (s.rxDrop n).result = s.result := rfl

end

/-! ### The pulse primitive -/

section
variable (s : State) (P : Params) (a : Axis) (d : Bool)

@[simp] theorem State.emitPulse_time : (s.emitPulse P a d).time = s.time := rfl
@[simp] theorem State.emitPulse_run : (s.emitPulse P a d).run = s.run := rfl
@[simp] theorem State.emitPulse_connLost : (s.emitPulse P a d).connLost = s.connLost := rfl
@[simp] theorem State.emitPulse_firstDone : (s.emitPulse P a d).firstDone = s.firstDone := rfl
@[simp] theorem State.emitPulse_rxOvf : (s.emitPulse P a d).rxOvf = s.rxOvf := rfl
@[simp] theorem State.emitPulse_linkFail : (s.emitPulse P a d).linkFail = s.linkFail := rfl
@[simp] theorem State.emitPulse_badCmd : (s.emitPulse P a d).badCmd = s.badCmd := rfl
@[simp] theorem State.emitPulse_frameCnt : (s.emitPulse P a d).frameCnt = s.frameCnt := rfl
@[simp] theorem State.emitPulse_dropCnt : (s.emitPulse P a d).dropCnt = s.dropCnt := rfl
@[simp] theorem State.emitPulse_safeCnt : (s.emitPulse P a d).safeCnt = s.safeCnt := rfl
@[simp] theorem State.emitPulse_rxBuf : (s.emitPulse P a d).rxBuf = s.rxBuf := rfl
@[simp] theorem State.emitPulse_ch : (s.emitPulse P a d).ch = s.ch := rfl
@[simp] theorem State.emitPulse_axes : (s.emitPulse P a d).axes = s.axes.upd a (AxisState.emitPulse P s.time d) := rfl
@[simp] theorem State.emitPulse_shadow : (s.emitPulse P a d).shadow = s.shadow := rfl
@[simp] theorem State.emitPulse_active : (s.emitPulse P a d).active = s.active := rfl
@[simp] theorem State.emitPulse_calActive : (s.emitPulse P a d).calActive = s.calActive := rfl
@[simp] theorem State.emitPulse_calAxis : (s.emitPulse P a d).calAxis = s.calAxis := rfl
@[simp] theorem State.emitPulse_calPhase : (s.emitPulse P a d).calPhase = s.calPhase := rfl
@[simp] theorem State.emitPulse_calCount : (s.emitPulse P a d).calCount = s.calCount := rfl
@[simp] theorem State.emitPulse_calTtrig : (s.emitPulse P a d).calTtrig = s.calTtrig := rfl
@[simp] theorem State.emitPulse_calLast : (s.emitPulse P a d).calLast = s.calLast := rfl
@[simp] theorem State.emitPulse_calResThrottle : (s.emitPulse P a d).calResThrottle = s.calResThrottle := rfl
@[simp] theorem State.emitPulse_calResBrake : (s.emitPulse P a d).calResBrake = s.calResBrake := rfl
@[simp] theorem State.emitPulse_heldTicks : (s.emitPulse P a d).heldTicks = s.heldTicks := rfl
@[simp] theorem State.emitPulse_inputs : (s.emitPulse P a d).inputs = s.inputs := rfl
@[simp] theorem State.emitPulse_switchSamples : (s.emitPulse P a d).switchSamples = s.switchSamples := rfl
@[simp] theorem State.emitPulse_result : (s.emitPulse P a d).result = s.result := rfl

end

/-! ### Safe-mode entry -/

section
variable (s : State)

@[simp] theorem enterSafeMode_time : (enterSafeMode s).time = s.time := rfl
@[simp] theorem enterSafeMode_run : (enterSafeMode s).run = s.run := rfl
@[simp] theorem enterSafeMode_connLost : (enterSafeMode s).connLost = s.connLost := rfl
@[simp] theorem enterSafeMode_firstDone : (enterSafeMode s).firstDone = s.firstDone := rfl
@[simp] theorem enterSafeMode_rxOvf : (enterSafeMode s).rxOvf = s.rxOvf := rfl
@[simp] theorem enterSafeMode_linkFail : (enterSafeMode s).linkFail = s.linkFail := rfl
@[simp] theorem enterSafeMode_badCmd : (enterSafeMode s).badCmd = s.badCmd := rfl
@[simp] theorem enterSafeMode_frameCnt : (enterSafeMode s).frameCnt = s.frameCnt := rfl
@[simp] theorem enterSafeMode_dropCnt : (enterSafeMode s).dropCnt = s.dropCnt := rfl
@[simp] theorem enterSafeMode_safeCnt : (enterSafeMode s).safeCnt = s.safeCnt + 1 := rfl
@[simp] theorem enterSafeMode_rxBuf : (enterSafeMode s).rxBuf = s.rxBuf := rfl
@[simp] theorem enterSafeMode_ch : (enterSafeMode s).ch = s.ch := rfl
@[simp] theorem enterSafeMode_shadow : (enterSafeMode s).shadow = s.shadow := rfl
@[simp] theorem enterSafeMode_active : (enterSafeMode s).active = s.active := rfl
@[simp] theorem enterSafeMode_calActive : (enterSafeMode s).calActive = s.calActive := rfl
@[simp] theorem enterSafeMode_calAxis : (enterSafeMode s).calAxis = s.calAxis := rfl
@[simp] theorem enterSafeMode_calPhase : (enterSafeMode s).calPhase = s.calPhase := rfl
@[simp] theorem enterSafeMode_calCount : (enterSafeMode s).calCount = s.calCount := rfl
@[simp] theorem enterSafeMode_calTtrig : (enterSafeMode s).calTtrig = s.calTtrig := rfl
@[simp] theorem enterSafeMode_calLast : (enterSafeMode s).calLast = s.calLast := rfl
@[simp] theorem enterSafeMode_calResThrottle : (enterSafeMode s).calResThrottle = s.calResThrottle := rfl
@[simp] theorem enterSafeMode_calResBrake : (enterSafeMode s).calResBrake = s.calResBrake := rfl
@[simp] theorem enterSafeMode_heldTicks : (enterSafeMode s).heldTicks = s.heldTicks := rfl
@[simp] theorem enterSafeMode_inputs : (enterSafeMode s).inputs = s.inputs := rfl
@[simp] theorem enterSafeMode_switchSamples : (enterSafeMode s).switchSamples = s.switchSamples := rfl
@[simp] theorem enterSafeMode_result : (enterSafeMode s).result = s.result := rfl

end

@[simp] theorem enterSafeMode_steering (s : State) :
    (enterSafeMode s).axes.steering = s.axes.steering.setTarget 0 := rfl
@[simp] theorem enterSafeMode_throttle (s : State) :
    (enterSafeMode s).axes.throttle = s.axes.throttle.setTarget 0 := rfl
@[simp] theorem enterSafeMode_brake (s : State) :
    (enterSafeMode s).axes.brake = s.axes.brake.setTarget (s.active.axes.brake.limit.toNat : Int) := rfl
@[simp] theorem enterSafeMode_transmission (s : State) :
    (enterSafeMode s).axes.transmission = s.axes.transmission := rfl

/-! ### Calibration results -/

section
variable (s : State) (c : CalAxis) (r : CalRes)

@[simp] theorem State.setCalRes_time : (s.setCalRes c r).time = s.time := by cases c <;> rfl
@[simp] theorem State.setCalRes_run : (s.setCalRes c r).run = s.run := by cases c <;> rfl
@[simp] theorem State.setCalRes_connLost : (s.setCalRes c r).connLost = s.connLost := by cases c <;> rfl
@[simp] theorem State.setCalRes_firstDone : (s.setCalRes c r).firstDone = s.firstDone := by cases c <;> rfl
@[simp] theorem State.setCalRes_rxOvf : (s.setCalRes c r).rxOvf = s.rxOvf := by cases c <;> rfl
@[simp] theorem State.setCalRes_linkFail : (s.setCalRes c r).linkFail = s.linkFail := by cases c <;> rfl
@[simp] theorem State.setCalRes_badCmd : (s.setCalRes c r).badCmd = s.badCmd := by cases c <;> rfl
@[simp] theorem State.setCalRes_frameCnt : (s.setCalRes c r).frameCnt = s.frameCnt := by cases c <;> rfl
@[simp] theorem State.setCalRes_dropCnt : (s.setCalRes c r).dropCnt = s.dropCnt := by cases c <;> rfl
@[simp] theorem State.setCalRes_safeCnt : (s.setCalRes c r).safeCnt = s.safeCnt := by cases c <;> rfl
@[simp] theorem State.setCalRes_rxBuf : (s.setCalRes c r).rxBuf = s.rxBuf := by cases c <;> rfl
@[simp] theorem State.setCalRes_ch : (s.setCalRes c r).ch = s.ch := by cases c <;> rfl
@[simp] theorem State.setCalRes_axes : (s.setCalRes c r).axes = s.axes := by cases c <;> rfl
@[simp] theorem State.setCalRes_shadow : (s.setCalRes c r).shadow = s.shadow := by cases c <;> rfl
@[simp] theorem State.setCalRes_active : (s.setCalRes c r).active = s.active := by cases c <;> rfl
@[simp] theorem State.setCalRes_calActive : (s.setCalRes c r).calActive = s.calActive := by cases c <;> rfl
@[simp] theorem State.setCalRes_calAxis : (s.setCalRes c r).calAxis = s.calAxis := by cases c <;> rfl
@[simp] theorem State.setCalRes_calPhase : (s.setCalRes c r).calPhase = s.calPhase := by cases c <;> rfl
@[simp] theorem State.setCalRes_calCount : (s.setCalRes c r).calCount = s.calCount := by cases c <;> rfl
@[simp] theorem State.setCalRes_calTtrig : (s.setCalRes c r).calTtrig = s.calTtrig := by cases c <;> rfl
@[simp] theorem State.setCalRes_calLast : (s.setCalRes c r).calLast = s.calLast := by cases c <;> rfl
@[simp] theorem State.setCalRes_heldTicks : (s.setCalRes c r).heldTicks = s.heldTicks := by cases c <;> rfl
@[simp] theorem State.setCalRes_inputs : (s.setCalRes c r).inputs = s.inputs := by cases c <;> rfl
@[simp] theorem State.setCalRes_switchSamples : (s.setCalRes c r).switchSamples = s.switchSamples := by cases c <;> rfl
@[simp] theorem State.setCalRes_result : (s.setCalRes c r).result = s.result := by cases c <;> rfl

@[simp] theorem State.setCalRes_same : (s.setCalRes c r).calRes c = r := by cases c <;> rfl

end

/-! ### Shadow settings -/

section
variable (s : State) (a : Axis) (f : AxisSettings → AxisSettings)

@[simp] theorem State.updShadow_time : (s.updShadow a f).time = s.time := rfl
@[simp] theorem State.updShadow_run : (s.updShadow a f).run = s.run := rfl
@[simp] theorem State.updShadow_connLost : (s.updShadow a f).connLost = s.connLost := rfl
@[simp] theorem State.updShadow_firstDone : (s.updShadow a f).firstDone = s.firstDone := rfl
@[simp] theorem State.updShadow_rxOvf : (s.updShadow a f).rxOvf = s.rxOvf := rfl
@[simp] theorem State.updShadow_linkFail : (s.updShadow a f).linkFail = s.linkFail := rfl
@[simp] theorem State.updShadow_badCmd : (s.updShadow a f).badCmd = s.badCmd := rfl
@[simp] theorem State.updShadow_frameCnt : (s.updShadow a f).frameCnt = s.frameCnt := rfl
@[simp] theorem State.updShadow_dropCnt : (s.updShadow a f).dropCnt = s.dropCnt := rfl
@[simp] theorem State.updShadow_safeCnt : (s.updShadow a f).safeCnt = s.safeCnt := rfl
@[simp] theorem State.updShadow_rxBuf : (s.updShadow a f).rxBuf = s.rxBuf := rfl
@[simp] theorem State.updShadow_ch : (s.updShadow a f).ch = s.ch := rfl
@[simp] theorem State.updShadow_axes : (s.updShadow a f).axes = s.axes := rfl
@[simp] theorem State.updShadow_shadow : (s.updShadow a f).shadow = { s.shadow with axes := s.shadow.axes.upd a f } := rfl
@[simp] theorem State.updShadow_active : (s.updShadow a f).active = s.active := rfl
@[simp] theorem State.updShadow_calActive : (s.updShadow a f).calActive = s.calActive := rfl
@[simp] theorem State.updShadow_calAxis : (s.updShadow a f).calAxis = s.calAxis := rfl
@[simp] theorem State.updShadow_calPhase : (s.updShadow a f).calPhase = s.calPhase := rfl
@[simp] theorem State.updShadow_calCount : (s.updShadow a f).calCount = s.calCount := rfl
@[simp] theorem State.updShadow_calTtrig : (s.updShadow a f).calTtrig = s.calTtrig := rfl
@[simp] theorem State.updShadow_calLast : (s.updShadow a f).calLast = s.calLast := rfl
@[simp] theorem State.updShadow_calResThrottle : (s.updShadow a f).calResThrottle = s.calResThrottle := rfl
@[simp] theorem State.updShadow_calResBrake : (s.updShadow a f).calResBrake = s.calResBrake := rfl
@[simp] theorem State.updShadow_heldTicks : (s.updShadow a f).heldTicks = s.heldTicks := rfl
@[simp] theorem State.updShadow_inputs : (s.updShadow a f).inputs = s.inputs := rfl
@[simp] theorem State.updShadow_switchSamples : (s.updShadow a f).switchSamples = s.switchSamples := rfl
@[simp] theorem State.updShadow_result : (s.updShadow a f).result = s.result := rfl

end

/-! ### COMMIT -/

section
variable (s : State)

@[simp] theorem commit_time : (commit s).time = s.time := rfl
@[simp] theorem commit_run : (commit s).run = s.run := rfl
@[simp] theorem commit_connLost : (commit s).connLost = s.connLost := rfl
@[simp] theorem commit_firstDone : (commit s).firstDone = s.firstDone := rfl
@[simp] theorem commit_rxOvf : (commit s).rxOvf = s.rxOvf := rfl
@[simp] theorem commit_linkFail : (commit s).linkFail = s.linkFail := rfl
@[simp] theorem commit_badCmd : (commit s).badCmd = s.badCmd := rfl
@[simp] theorem commit_frameCnt : (commit s).frameCnt = s.frameCnt := rfl
@[simp] theorem commit_dropCnt : (commit s).dropCnt = s.dropCnt := rfl
@[simp] theorem commit_safeCnt : (commit s).safeCnt = s.safeCnt := rfl
@[simp] theorem commit_rxBuf : (commit s).rxBuf = s.rxBuf := rfl
@[simp] theorem commit_ch : (commit s).ch = s.ch := rfl
@[simp] theorem commit_axes : (commit s).axes = s.axes.map (AxisState.restartVelocityTime s.time) := rfl
@[simp] theorem commit_shadow : (commit s).shadow = s.shadow := rfl
@[simp] theorem commit_active : (commit s).active = s.shadow := rfl
@[simp] theorem commit_calActive : (commit s).calActive = s.calActive := rfl
@[simp] theorem commit_calAxis : (commit s).calAxis = s.calAxis := rfl
@[simp] theorem commit_calPhase : (commit s).calPhase = s.calPhase := rfl
@[simp] theorem commit_calCount : (commit s).calCount = s.calCount := rfl
@[simp] theorem commit_calTtrig : (commit s).calTtrig = s.calTtrig := rfl
@[simp] theorem commit_calLast : (commit s).calLast = s.calLast := rfl
@[simp] theorem commit_calResThrottle : (commit s).calResThrottle = s.calResThrottle := rfl
@[simp] theorem commit_calResBrake : (commit s).calResBrake = s.calResBrake := rfl
@[simp] theorem commit_heldTicks : (commit s).heldTicks = s.heldTicks := rfl
@[simp] theorem commit_inputs : (commit s).inputs = s.inputs := rfl
@[simp] theorem commit_switchSamples : (commit s).switchSamples = s.switchSamples := rfl
@[simp] theorem commit_result : (commit s).result = s.result := rfl

end

/-! ### CLEAR_STICKY -/

section
variable (s : State)

@[simp] theorem clearSticky_time : (clearSticky s).time = s.time := rfl
@[simp] theorem clearSticky_run : (clearSticky s).run = s.run := rfl
@[simp] theorem clearSticky_connLost : (clearSticky s).connLost = s.connLost := rfl
@[simp] theorem clearSticky_firstDone : (clearSticky s).firstDone = s.firstDone := rfl
@[simp] theorem clearSticky_rxOvf : (clearSticky s).rxOvf = false := rfl
@[simp] theorem clearSticky_linkFail : (clearSticky s).linkFail = false := rfl
@[simp] theorem clearSticky_badCmd : (clearSticky s).badCmd = false := rfl
@[simp] theorem clearSticky_frameCnt : (clearSticky s).frameCnt = s.frameCnt := rfl
@[simp] theorem clearSticky_dropCnt : (clearSticky s).dropCnt = s.dropCnt := rfl
@[simp] theorem clearSticky_safeCnt : (clearSticky s).safeCnt = s.safeCnt := rfl
@[simp] theorem clearSticky_rxBuf : (clearSticky s).rxBuf = s.rxBuf := rfl
@[simp] theorem clearSticky_ch : (clearSticky s).ch = s.ch := rfl
@[simp] theorem clearSticky_axes : (clearSticky s).axes = s.axes := rfl
@[simp] theorem clearSticky_shadow : (clearSticky s).shadow = s.shadow := rfl
@[simp] theorem clearSticky_active : (clearSticky s).active = s.active := rfl
@[simp] theorem clearSticky_calActive : (clearSticky s).calActive = s.calActive := rfl
@[simp] theorem clearSticky_calAxis : (clearSticky s).calAxis = s.calAxis := rfl
@[simp] theorem clearSticky_calPhase : (clearSticky s).calPhase = s.calPhase := rfl
@[simp] theorem clearSticky_calCount : (clearSticky s).calCount = s.calCount := rfl
@[simp] theorem clearSticky_calTtrig : (clearSticky s).calTtrig = s.calTtrig := rfl
@[simp] theorem clearSticky_calLast : (clearSticky s).calLast = s.calLast := rfl
@[simp] theorem clearSticky_calResThrottle : (clearSticky s).calResThrottle = s.calResThrottle := rfl
@[simp] theorem clearSticky_calResBrake : (clearSticky s).calResBrake = s.calResBrake := rfl
@[simp] theorem clearSticky_heldTicks : (clearSticky s).heldTicks = s.heldTicks := rfl
@[simp] theorem clearSticky_inputs : (clearSticky s).inputs = s.inputs := rfl
@[simp] theorem clearSticky_switchSamples : (clearSticky s).switchSamples = s.switchSamples := rfl
@[simp] theorem clearSticky_result : (clearSticky s).result = s.result := rfl

end

/-! ### One AxisState -/

section
variable (x : AxisState)

@[simp] theorem AxisState.halt_pos : (x.halt).pos = x.pos := rfl
@[simp] theorem AxisState.halt_vel : (x.halt).vel = 0 := rfl
@[simp] theorem AxisState.halt_inf : (x.halt).inf = true := rfl
@[simp] theorem AxisState.halt_ivl : (x.halt).ivl = 0 := rfl
@[simp] theorem AxisState.halt_tgt : (x.halt).tgt = x.tgt := rfl
@[simp] theorem AxisState.halt_lstep : (x.halt).lstep = x.lstep := rfl
@[simp] theorem AxisState.halt_lvel : (x.halt).lvel = x.lvel := rfl
@[simp] theorem AxisState.halt_dir : (x.halt).dir = x.dir := rfl
@[simp] theorem AxisState.halt_pstart : (x.halt).pstart = x.pstart := rfl
@[simp] theorem AxisState.halt_pend : (x.halt).pend = x.pend := rfl

end

section
variable (x : AxisState) (now : Time)

@[simp] theorem AxisState.restartVelocityTime_pos : (x.restartVelocityTime now).pos = x.pos := rfl
@[simp] theorem AxisState.restartVelocityTime_vel : (x.restartVelocityTime now).vel = x.vel := rfl
@[simp] theorem AxisState.restartVelocityTime_inf : (x.restartVelocityTime now).inf = x.inf := rfl
@[simp] theorem AxisState.restartVelocityTime_ivl : (x.restartVelocityTime now).ivl = x.ivl := rfl
@[simp] theorem AxisState.restartVelocityTime_tgt : (x.restartVelocityTime now).tgt = x.tgt := rfl
@[simp] theorem AxisState.restartVelocityTime_lstep : (x.restartVelocityTime now).lstep = x.lstep := rfl
@[simp] theorem AxisState.restartVelocityTime_lvel : (x.restartVelocityTime now).lvel = now := rfl
@[simp] theorem AxisState.restartVelocityTime_dir : (x.restartVelocityTime now).dir = x.dir := rfl
@[simp] theorem AxisState.restartVelocityTime_pstart : (x.restartVelocityTime now).pstart = x.pstart := rfl
@[simp] theorem AxisState.restartVelocityTime_pend : (x.restartVelocityTime now).pend = x.pend := rfl

end

section
variable (x : AxisState) (v : Int)

@[simp] theorem AxisState.setTarget_pos : (x.setTarget v).pos = x.pos := rfl
@[simp] theorem AxisState.setTarget_vel : (x.setTarget v).vel = x.vel := rfl
@[simp] theorem AxisState.setTarget_inf : (x.setTarget v).inf = x.inf := rfl
@[simp] theorem AxisState.setTarget_ivl : (x.setTarget v).ivl = x.ivl := rfl
@[simp] theorem AxisState.setTarget_tgt : (x.setTarget v).tgt = BitVec.ofInt 32 v := rfl
@[simp] theorem AxisState.setTarget_lstep : (x.setTarget v).lstep = x.lstep := rfl
@[simp] theorem AxisState.setTarget_lvel : (x.setTarget v).lvel = x.lvel := rfl
@[simp] theorem AxisState.setTarget_dir : (x.setTarget v).dir = x.dir := rfl
@[simp] theorem AxisState.setTarget_pstart : (x.setTarget v).pstart = x.pstart := rfl
@[simp] theorem AxisState.setTarget_pend : (x.setTarget v).pend = x.pend := rfl

end

section
variable (x : AxisState) (P : Params) (now : Time) (d : Bool)

@[simp] theorem AxisState.emitPulse_pos : (x.emitPulse P now d).pos = x.pos := rfl
@[simp] theorem AxisState.emitPulse_vel : (x.emitPulse P now d).vel = x.vel := rfl
@[simp] theorem AxisState.emitPulse_inf : (x.emitPulse P now d).inf = x.inf := rfl
@[simp] theorem AxisState.emitPulse_ivl : (x.emitPulse P now d).ivl = x.ivl := rfl
@[simp] theorem AxisState.emitPulse_tgt : (x.emitPulse P now d).tgt = x.tgt := rfl
@[simp] theorem AxisState.emitPulse_lstep : (x.emitPulse P now d).lstep = x.lstep := rfl
@[simp] theorem AxisState.emitPulse_lvel : (x.emitPulse P now d).lvel = x.lvel := rfl
@[simp] theorem AxisState.emitPulse_dir : (x.emitPulse P now d).dir = d := rfl
@[simp] theorem AxisState.emitPulse_pstart : (x.emitPulse P now d).pstart = now + P.dirSetupUs.setWidth 64 := rfl
@[simp] theorem AxisState.emitPulse_pend : (x.emitPulse P now d).pend = now + P.dirSetupUs.setWidth 64 + BitVec.ofNat 64 P.pulseWidthUs := rfl

end

section
variable (x : AxisState)

@[simp] theorem homeAxis_pos : (homeAxis x).pos = 0 := rfl
@[simp] theorem homeAxis_vel : (homeAxis x).vel = 0 := rfl
@[simp] theorem homeAxis_inf : (homeAxis x).inf = true := rfl
@[simp] theorem homeAxis_ivl : (homeAxis x).ivl = 0 := rfl
@[simp] theorem homeAxis_tgt : (homeAxis x).tgt = 0 := rfl
@[simp] theorem homeAxis_lstep : (homeAxis x).lstep = x.lstep := rfl
@[simp] theorem homeAxis_lvel : (homeAxis x).lvel = x.lvel := rfl
@[simp] theorem homeAxis_dir : (homeAxis x).dir = x.dir := rfl
@[simp] theorem homeAxis_pstart : (homeAxis x).pstart = x.pstart := rfl
@[simp] theorem homeAxis_pend : (homeAxis x).pend = x.pend := rfl

end

section
variable (x : AxisState)

@[simp] theorem neutralAxis_pos : (neutralAxis x).pos = x.pos := rfl
@[simp] theorem neutralAxis_vel : (neutralAxis x).vel = 0 := rfl
@[simp] theorem neutralAxis_inf : (neutralAxis x).inf = true := rfl
@[simp] theorem neutralAxis_ivl : (neutralAxis x).ivl = 0 := rfl
@[simp] theorem neutralAxis_tgt : (neutralAxis x).tgt = x.tgt := rfl
@[simp] theorem neutralAxis_lstep : (neutralAxis x).lstep = x.lstep := rfl
@[simp] theorem neutralAxis_lvel : (neutralAxis x).lvel = x.lvel := rfl
@[simp] theorem neutralAxis_dir : (neutralAxis x).dir = false := rfl
@[simp] theorem neutralAxis_pstart : (neutralAxis x).pstart = x.pstart := rfl
@[simp] theorem neutralAxis_pend : (neutralAxis x).pend = x.pend := rfl

end

end Sys2Proof.Machine
end

