-- ==== Sys2Proof/Laws/Ops.lean ====
section
/-! SUPPORT. For each shared operation, one lemma that says what it can do: arithmetic, the ramp and the interval, the parse
loop, the failsafe's cases, the step stage's cases, the calibration's cases, and the machine's own step. -/

/-! ### The parameters (00_scope.md R10) -/

namespace Sys2Proof

theorem Params.deadBand_pos (P : Params) : 1 ≤ P.deadBand := Nat.succ_le_succ (Nat.zero_le _)

theorem Params.ppr_bounds (P : Params) : 1 ≤ P.ppr ∧ P.ppr ≤ 65535 := by
  have := P.pprLess1.isLt
  unfold Params.ppr
  omega

theorem Params.minStepInterval_bounds (P : Params) : 1 ≤ P.minStepIntervalUs ∧ P.minStepIntervalUs < 281474976710656 := by
  have := P.minStepIntervalLess1.isLt
  unfold Params.minStepIntervalUs
  omega

theorem Params.pulseWidth_bounds (P : Params) : 1 ≤ P.pulseWidthUs ∧ P.pulseWidthUs ≤ 65535 := by
  have := P.pulseWidthLess1.isLt
  unfold Params.pulseWidthUs
  omega

theorem Params.rxbufDepth_bounds (P : Params) : 32 ≤ P.rxbufDepth ∧ P.rxbufDepth ≤ 65535 := by
  have := P.rxbufDepthLess32.isLt
  unfold Params.rxbufDepth
  omega

end Sys2Proof

namespace Sys2Proof.Machine

/-! ### Arithmetic -/

theorem clamp_bounds {x lo hi : Int} (h : lo ≤ hi) : lo ≤ clamp x lo hi ∧ clamp x lo hi ≤ hi := by
  unfold clamp
  omega

theorem clamp_eq_self {x lo hi : Int} (h₁ : lo ≤ x) (h₂ : x ≤ hi) : clamp x lo hi = x := by
  unfold clamp
  omega

theorem sat32_bounds (x : Int) : -2147483648 ≤ sat32 x ∧ sat32 x ≤ 2147483647 := clamp_bounds (by decide)

/-- An integer of the 32-bit range is the value of its two's complement. -/
theorem toInt_ofInt32 {x : Int} (h₁ : -2147483648 ≤ x) (h₂ : x ≤ 2147483647) : (BitVec.ofInt 32 x).toInt = x := by
  rw [BitVec.toInt_ofInt]
  exact Int.bmod_eq_of_le (by norm_num; omega) (by norm_num; omega)

theorem ceilDiv_mul_ge {a b : Nat} (hb : 0 < b) : a ≤ ceilDiv a b * b := by
  unfold ceilDiv
  have h₁ := Nat.div_add_mod (a + b - 1) b
  have h₂ := Nat.mod_lt (a + b - 1) hb
  rw [Nat.mul_comm] at h₁
  omega

theorem ceilDiv_least {a b q : Nat} (hb : 0 < b) (h : a ≤ q * b) : ceilDiv a b ≤ q := by
  unfold ceilDiv
  have : a + b - 1 < (q + 1) * b := by
    rw [Nat.add_mul]
    omega
  exact Nat.lt_succ_iff.mp ((Nat.div_lt_iff_lt_mul hb).mpr this)

theorem ceilDiv_le_self {a b : Nat} (hb : 0 < b) : ceilDiv a b ≤ a :=
  ceilDiv_least hb (Nat.le_mul_of_pos_right a hb)

/-! ### The ramp and the interval -/

theorem ramp_between (v t k : Nat) : min v t ≤ ramp v t k ∧ ramp v t k ≤ max v t := by
  unfold ramp
  split
  · omega
  · split <;> omega

/-- The ramp moves by at most its step (43_profile.md R166). -/
theorem ramp_step (v t k : Nat) : ramp v t k ≤ v + k ∧ v ≤ ramp v t k + k := by
  unfold ramp
  split
  · omega
  · split <;> omega

theorem speed_lt (c : AxisSettings) : c.speed.toNat * Config.urpmPerRpm ≤ 65535 * Config.urpmPerRpm := by
  have := c.speed.isLt
  exact Nat.mul_le_mul_right _ (by omega)

theorem rampedVelocity_le (c : AxisSettings) (now : Time) (x : AxisState) :
    rampedVelocity c now x ≤ max x.vel.toNat (c.speed.toNat * Config.urpmPerRpm) := (ramp_between _ _ _).2

theorem rampedVelocity_lt (c : AxisSettings) (now : Time) (x : AxisState) : rampedVelocity c now x < 1099511627776 := by
  have h₁ := rampedVelocity_le c now x
  have h₂ := speed_lt c
  have h₃ : x.vel.toNat < 1099511627776 := x.vel.isLt
  have h₄ : 65535 * Config.urpmPerRpm = 65535000000 := rfl
  omega

theorem stepInterval_lt (P : Params) {v : Nat} (hv : 0 < v) : stepInterval P v < 281474976710656 := by
  have h₁ := P.minStepInterval_bounds
  have h₂ : 0 < v * P.ppr := Nat.mul_pos hv P.ppr_bounds.1
  have h₃ := ceilDiv_le_self (a := Config.intervalNumerator) h₂
  have h₄ : Config.intervalNumerator = 60000000000000 := rfl
  unfold stepInterval
  omega

theorem stepInterval_floor (P : Params) (v : Nat) : P.minStepIntervalUs ≤ stepInterval P v := Nat.le_max_left _ _

section Profile
variable (P : Params) (c : AxisSettings) (now : Time) (x : AxisState)

/-- The new velocity is the ramped one: no bit is lost in 40 (43_profile.md R169). -/
theorem profileAxis_vel : (profileAxis P c now x).vel.toNat = rampedVelocity c now x := by
  have h := rampedVelocity_lt c now x
  unfold profileAxis AxisState.setVelocity
  split
  · simp only [BitVec.toNat_ofNat]
    omega
  · simp
    omega

theorem profileAxis_inf : (profileAxis P c now x).inf = decide (rampedVelocity c now x = 0) := by
  unfold profileAxis AxisState.setVelocity
  split <;> simp <;> omega

/-- The new interval: no bit is lost in 48 (43_profile.md R169). -/
theorem profileAxis_ivl : (profileAxis P c now x).ivl.toNat =
    if 0 < rampedVelocity c now x then stepInterval P (rampedVelocity c now x) else 0 := by
  unfold profileAxis AxisState.setVelocity
  split
  · rename_i h
    have := stepInterval_lt P h
    simp only [BitVec.toNat_ofNat]
    omega
  · rfl

@[simp] theorem profileAxis_lvel : (profileAxis P c now x).lvel = now := by unfold profileAxis AxisState.setVelocity; split <;> rfl
@[simp] theorem profileAxis_pos : (profileAxis P c now x).pos = x.pos := by unfold profileAxis AxisState.setVelocity; split <;> rfl
@[simp] theorem profileAxis_tgt : (profileAxis P c now x).tgt = x.tgt := by unfold profileAxis AxisState.setVelocity; split <;> rfl
@[simp] theorem profileAxis_lstep : (profileAxis P c now x).lstep = x.lstep := by unfold profileAxis AxisState.setVelocity; split <;> rfl
@[simp] theorem profileAxis_dir : (profileAxis P c now x).dir = x.dir := by unfold profileAxis AxisState.setVelocity; split <;> rfl
@[simp] theorem profileAxis_pstart : (profileAxis P c now x).pstart = x.pstart := by unfold profileAxis AxisState.setVelocity; split <;> rfl
@[simp] theorem profileAxis_pend : (profileAxis P c now x).pend = x.pend := by unfold profileAxis AxisState.setVelocity; split <;> rfl

theorem profileAxis_ok : (profileAxis P c now x).vel.toNat ≤ 65535 * Config.urpmPerRpm →
    (profileAxis P c now x).Ok P := by
  intro hcap
  have hv := profileAxis_vel P c now x
  have hi := profileAxis_inf P c now x
  have hl := profileAxis_ivl P c now x
  refine ⟨?_, ?_, ?_, hcap⟩
  · rw [hi, ← BitVec.toNat_inj, hv]
    simp
  · intro h
    rw [hi] at h
    apply BitVec.eq_of_toNat_eq
    rw [hl, if_neg (by simpa using h)]
    rfl
  · intro h
    rw [hi] at h
    have h' : 0 < rampedVelocity c now x := Nat.pos_of_ne_zero (by simpa using h)
    rw [hl, if_pos h']
    exact stepInterval_floor P _

end Profile

/-! ### The step stage -/

theorem Settings.lo_le_hi (c : Settings) (a : Axis) : c.lo a ≤ c.hi a := by
  cases a <;> simp only [Settings.lo, Settings.hi] <;> omega

theorem Settings.range (c : Settings) (a : Axis) :
    -2147483647 ≤ c.lo a ∧ c.lo a ≤ 0 ∧ 0 ≤ c.hi a ∧ c.hi a ≤ 2147483647 := by
  have h₀ := c.fwd.isLt
  have h := (c.axes.get a).limit.isLt
  cases a <;> simp only [Settings.lo, Settings.hi] <;> omega

theorem clampedTarget_bounds (c : Settings) (a : Axis) (x : AxisState) :
    c.lo a ≤ clampedTarget c a x ∧ clampedTarget c a x ≤ c.hi a := clamp_bounds (c.lo_le_hi a)

/-- The stored clamped target is the clamped target (44_step.md R182). -/
theorem setTarget_clamped_toInt (c : Settings) (a : Axis) (x : AxisState) :
    (BitVec.ofInt 32 (clampedTarget c a x)).toInt = clampedTarget c a x := by
  have h₁ := clampedTarget_bounds c a x
  have h₂ := c.range a
  exact toInt_ofInt32 (by omega) (by omega)

/-- What STEP does: the dead band, a step, or a direction write alone (44_step.md R181–R188). -/
theorem stepAxis_cases (P : Params) (c : Settings) (a : Axis) (now : Time) (x : AxisState) :
    ((positionError c a x).natAbs < P.deadBand ∧
      stepAxis P c a now x = (x.setTarget (clampedTarget c a x)).halt) ∨
    (P.deadBand ≤ (positionError c a x).natAbs ∧ pulseDue now x = true ∧
      stepAxis P c a now x =
        { (x.setTarget (clampedTarget c a x)).emitPulse P now (directionLevel a (positionError c a x)) with
          pos := x.pos + BitVec.ofInt 32 (positionError c a x).sign, lstep := now }) ∨
    (P.deadBand ≤ (positionError c a x).natAbs ∧ pulseDue now x = false ∧
      stepAxis P c a now x =
        { x.setTarget (clampedTarget c a x) with dir := directionLevel a (positionError c a x) }) := by
  by_cases h : (positionError c a x).natAbs < P.deadBand
  · exact .inl ⟨h, by simp [stepAxis, h]⟩
  · have h' : P.deadBand ≤ (positionError c a x).natAbs := Nat.le_of_not_lt h
    cases hd : pulseDue now x
    · exact .inr (.inr ⟨h', rfl, by
      have hd' : pulseDue now (x.setTarget (clampedTarget c a x)) = pulseDue now x := rfl
      simp [stepAxis, moveAxis, h, hd', hd]⟩)
    · exact .inr (.inl ⟨h', rfl, by
      have hd' : pulseDue now (x.setTarget (clampedTarget c a x)) = pulseDue now x := rfl
      simp [stepAxis, moveAxis, h, hd', hd]⟩)

/-- A step moves the position by one toward the target, with no wrap (44_step.md R186, R189). -/
theorem stepped_pos_toInt (P : Params) (c : Settings) (a : Axis) (x : AxisState)
    (h : P.deadBand ≤ (positionError c a x).natAbs) :
    (x.pos + BitVec.ofInt 32 (positionError c a x).sign).toInt = x.pos.toInt + (positionError c a x).sign := by
  have h₁ := clampedTarget_bounds c a x
  have h₂ := c.range a
  have h₃ := P.deadBand_pos
  have h₄ := BitVec.toInt_lt (x := x.pos)
  have h₅ := BitVec.le_toInt (x := x.pos)
  norm_num at h₄ h₅
  have hs : (positionError c a x).sign = 1 ∧ 0 < positionError c a x ∨
      (positionError c a x).sign = -1 ∧ positionError c a x < 0 := by
    rcases lt_trichotomy (positionError c a x) 0 with h | h | h
    · exact .inr ⟨Int.sign_eq_neg_one_of_neg h, h⟩
    · omega
    · exact .inl ⟨Int.sign_eq_one_of_pos h, h⟩
  have he : positionError c a x = clampedTarget c a x - x.pos.toInt := rfl
  rw [BitVec.toInt_add, toInt_ofInt32 (by omega) (by omega)]
  exact Int.bmod_eq_of_le (by norm_num; omega) (by norm_num; omega)

/-! ### Receiving a byte -/

/-- Everything the arrival of one byte can do (40_framer.md R122). -/
theorem rxByte_cases (P : Params) (b : Byte) (s : State) :
    (s.run = false ∧ rxByte P b s = s) ∨
    (s.run = true ∧ s.rxBuf.length < P.rxbufDepth ∧ rxByte P b s = s.rxPush b) ∨
    (s.run = true ∧ P.rxbufDepth ≤ s.rxBuf.length ∧ rxByte P b s = { s with rxOvf := true }) := by
  unfold rxByte
  cases hr : s.run with
  | false => exact .inl ⟨rfl, rfl⟩
  | true =>
    rw [if_pos rfl]
    split
    · exact .inr (.inl ⟨rfl, ‹_›, rfl⟩)
    · exact .inr (.inr ⟨rfl, Nat.le_of_not_lt ‹_›, rfl⟩)

/-- A byte that finds the buffer full is lost (40_framer.md R122). -/
theorem rxByte_full {P : Params} {s : State} (b : Byte) (hr : s.run = true) (h : P.rxbufDepth ≤ s.rxBuf.length) :
    rxByte P b s = { s with rxOvf := true } := by
  rcases rxByte_cases P b s with ⟨h0, _⟩ | ⟨_, h1, _⟩ | ⟨_, _, h2⟩
  · rw [hr] at h0
    cases h0
  · omega
  · exact h2

/-! ### The parse loop -/

/-- What the loop of PARSE finds: `n` bytes none of which begins a valid frame of the buffer, and after them a valid frame or
fewer than 32 bytes (40_framer.md R124–R129). -/
theorem scan_spec (buf : List Byte) :
    (scan buf).1 ≤ buf.length ∧
    (∀ i < (scan buf).1, 32 ≤ (buf.drop i).length ∧ frameValid (buf.drop i) = false) ∧
    ((scan buf).2 = true → 32 ≤ (buf.drop (scan buf).1).length ∧ frameValid (buf.drop (scan buf).1) = true) ∧
    ((scan buf).2 = false → (buf.drop (scan buf).1).length < 32) := by
  induction buf with
  | nil => simp [scan]
  | cons b rest ih =>
    unfold scan
    split
    · rename_i h
      simp only [Config.frameLen] at h
      simpa using h
    · rename_i h
      simp only [Config.frameLen, not_lt] at h
      split
      · rename_i hv
        exact ⟨Nat.zero_le _, fun i hi => absurd hi (Nat.not_lt_zero i), fun _ => ⟨h, hv⟩, fun hf => by cases hf⟩
      · rename_i hv
        obtain ⟨h₁, h₂, h₃, h₄⟩ := ih
        refine ⟨by simpa using h₁, ?_, h₃, h₄⟩
        intro i hi
        cases i with
        | zero => exact ⟨h, by simpa using hv⟩
        | succ i => exact h₂ i (by simpa using hi)

/-- The two facts that determine the loop's answer when a valid frame comes after `n` bad starts. -/
theorem scan_found (buf : List Byte) (n : Nat) (hlen : 32 ≤ (buf.drop n).length)
    (hv : frameValid (buf.drop n) = true) (hbad : ∀ i < n, frameValid (buf.drop i) = false) : scan buf = (n, true) := by
  obtain ⟨h₁, h₂, h₃, h₄⟩ := scan_spec buf
  cases hf : (scan buf).2 with
  | false =>
    have h := h₄ hf
    simp only [List.length_drop] at h hlen
    have : n < (scan buf).1 := by omega
    rw [(h₂ n this).2] at hv
    cases hv
  | true =>
    obtain ⟨h₅, h₆⟩ := h₃ hf
    rcases Nat.lt_trichotomy (scan buf).1 n with h | h | h
    · rw [hbad _ h] at h₆
      cases h₆
    · exact Prod.ext h hf
    · rw [(h₂ n h).2] at hv
      cases hv

/-- The loop's answer when no window of the buffer is a valid frame: all but the last 31 bytes are dropped. -/
theorem scan_none (buf : List Byte) (hbad : ∀ i, 32 ≤ (buf.drop i).length → frameValid (buf.drop i) = false) :
    scan buf = (buf.length - 31, false) := by
  obtain ⟨h₁, h₂, h₃, h₄⟩ := scan_spec buf
  cases hf : (scan buf).2 with
  | true =>
    obtain ⟨h₅, h₆⟩ := h₃ hf
    rw [hbad _ h₅] at h₆
    cases h₆
  | false =>
    have h := h₄ hf
    refine Prod.ext ?_ hf
    simp only [List.length_drop] at h
    by_contra hne
    have hlt : buf.length - 31 < (scan buf).1 := by
      simp only at hne
      omega
    have := (h₂ _ hlt).1
    simp only [List.length_drop] at this
    omega

/-- What PARSE can do: deliver the frame after the bytes dropped, or only drop (40_framer.md R124). -/
theorem parse_cases (s : State) :
    ((scan s.rxBuf).2 = true ∧ parse s =
      ({ s with
          rxBuf := s.rxBuf.drop ((scan s.rxBuf).1 + 32)
          ch := channelsOf (s.rxBuf.drop (scan s.rxBuf).1)
          dropCnt := s.dropCnt + BitVec.ofNat 32 (scan s.rxBuf).1
          frameCnt := s.frameCnt + 1 }, true)) ∨
    ((scan s.rxBuf).2 = false ∧ parse s =
      ({ s with
          rxBuf := s.rxBuf.drop (scan s.rxBuf).1
          dropCnt := s.dropCnt + BitVec.ofNat 32 (scan s.rxBuf).1 }, false)) := by
  unfold parse
  cases h : (scan s.rxBuf).2
  · exact .inr ⟨rfl, rfl⟩
  · refine .inl ⟨rfl, ?_⟩
    simp [deliver, realign, State.rxDrop, Config.frameLen, List.drop_drop, Nat.add_comm]

/-! ### The failsafe -/

/-- What FAILSAFE can do (41_failsafe.md R141, R142). -/
theorem failsafe_cases (f : Bool) (s : State) :
    (f = false ∧ failsafe f s = (s, false)) ∨
    (f = true ∧ 800 ≤ s.ch[6].toNat ∧ failsafe f s = ({ s with connLost := false }, true)) ∨
    (f = true ∧ s.ch[6].toNat < 800 ∧ s.connLost = true ∧ failsafe f s = (s, false)) ∨
    (f = true ∧ s.ch[6].toNat < 800 ∧ s.connLost = false ∧
      failsafe f s = (enterSafeMode { s with connLost := true }, false)) := by
  cases f with
  | false => exact .inl ⟨rfl, rfl⟩
  | true =>
    by_cases h : 800 ≤ s.ch[6].toNat
    · exact .inr (.inl ⟨rfl, h, by simp [failsafe, signalOk, Config.sigMin, h]⟩)
    · have h' : s.ch[6].toNat < 800 := Nat.lt_of_not_le h
      cases hc : s.connLost
      · exact .inr (.inr (.inr ⟨rfl, h', rfl, by simp [failsafe, signalOk, Config.sigMin, h, hc]⟩))
      · exact .inr (.inr (.inl ⟨rfl, h', rfl, by simp [failsafe, signalOk, Config.sigMin, h, hc]⟩))

/-! ### The calibration sequencer -/

/-- What CAL_STEP can do: nothing, a phase change, a failure, a pulse, or DONE (45_calibration.md R203). -/
theorem calStep_cases (P : Params) (sw1 sw2 : Bool) (s : State) :
    calStep P sw1 sw2 s = s ∨
    (s.calActive = true ∧ s.calPhase = .seeking ∧ triggered sw1 sw2 s.calAxis = true ∧
      calStep P sw1 sw2 s = { s with calPhase := .backingOff, calTtrig := s.time, calCount := 0 }) ∨
    (s.calActive = true ∧ s.calPhase = .seeking ∧ triggered sw1 sw2 s.calAxis = false ∧
      P.calStepBudget.toNat ≤ s.calCount.toNat ∧ calStep P sw1 sw2 s = calFinish .fail s) ∨
    (s.calActive = true ∧ s.calPhase = .seeking ∧ triggered sw1 sw2 s.calAxis = false ∧
      s.calCount.toNat < P.calStepBudget.toNat ∧ calStepDue P s = true ∧
      calStep P sw1 sw2 s = calPulse P (polarity s.calAxis.axis) s) ∨
    (s.calActive = true ∧ s.calPhase = .backingOff ∧ P.calDebounceUs.toNat ≤ elapsed s.time s.calTtrig ∧
      P.calBackoffSteps.toNat ≤ s.calCount.toNat ∧
      calStep P sw1 sw2 s = calFinish .ok (s.updAxis s.calAxis.axis homeAxis)) ∨
    (s.calActive = true ∧ s.calPhase = .backingOff ∧ P.calDebounceUs.toNat ≤ elapsed s.time s.calTtrig ∧
      s.calCount.toNat < P.calBackoffSteps.toNat ∧ calStepDue P s = true ∧
      calStep P sw1 sw2 s = calPulse P (!polarity s.calAxis.axis) s) := by
  by_cases ha : s.calActive = true
  · have hp : s.calPhase = .idle ∨ s.calPhase = .seeking ∨ s.calPhase = .backingOff := by cases s.calPhase <;> simp
    rcases hp with hp | hp | hp
    · exact .inl (by simp [calStep, hp])
    · simp only [calStep, ha, hp, calSeek, if_true]
      split
      · rename_i h
        exact .inr (.inl ⟨trivial, trivial, h, rfl⟩)
      · rename_i h
        split
        · rename_i h₂
          exact .inr (.inr (.inl ⟨trivial, trivial, by simpa using h, h₂, rfl⟩))
        · rename_i h₂
          split
          · rename_i h₃
            exact .inr (.inr (.inr (.inl ⟨trivial, trivial, by simpa using h, Nat.lt_of_not_le h₂, h₃, rfl⟩)))
          · exact .inl rfl
    · simp only [calStep, ha, hp, calBackOff, if_true]
      split
      · exact .inl rfl
      · rename_i h
        split
        · rename_i h₂
          exact .inr (.inr (.inr (.inr (.inl ⟨trivial, trivial, Nat.le_of_not_lt h, h₂, rfl⟩))))
        · rename_i h₂
          split
          · rename_i h₃
            exact .inr (.inr (.inr (.inr (.inr
              ⟨trivial, trivial, Nat.le_of_not_lt h, Nat.lt_of_not_le h₂, h₃, rfl⟩))))
          · exact .inl rfl
  · exact .inl (by simp [calStep, ha])

/-- Finishing the throttle passes to the brake (45_calibration.md R210, R211). -/
theorem calFinish_throttle {s : State} (r : CalRes) (h : s.calAxis = .throttle) :
    calFinish r s =
      { s with
        axes := s.axes.upd .throttle (AxisState.restartVelocityTime s.time)
        calResThrottle := r, calAxis := .brake, calPhase := .seeking, calCount := 0 } := by
  cases s
  cases h
  rfl

/-- Finishing the brake ends the sequence (45_calibration.md R210, R211). -/
theorem calFinish_brake {s : State} (r : CalRes) (h : s.calAxis = .brake) :
    calFinish r s =
      { s with
        axes := s.axes.upd .brake (AxisState.restartVelocityTime s.time)
        calResBrake := r, calActive := false, calPhase := .idle, calCount := 0 } := by
  cases s
  cases h
  rfl

/-! ### The machine's step -/

/-- Where the next event comes from. -/
theorem fetch_cases (s : State) :
    (s.pulseBusy = false ∧ ∃ n, s.heldTicks = n + 1 ∧
      fetch s = some (.ok (admitHeld s n).1, (admitHeld s n).2)) ∨
    ((s.pulseBusy = true ∨ s.heldTicks = 0) ∧ s.inputs = [] ∧ fetch s = none) ∨
    ((s.pulseBusy = true ∨ s.heldTicks = 0) ∧ ∃ e rest, s.inputs = e :: rest ∧
      fetch s = some (decode e, { s with inputs := rest })) := by
  unfold fetch
  cases hb : s.pulseBusy with
  | true =>
    cases hi : s.inputs with
    | nil => exact .inr (.inl ⟨.inl rfl, rfl, rfl⟩)
    | cons e rest => exact .inr (.inr ⟨.inl rfl, e, rest, rfl, rfl⟩)
  | false =>
    cases hh : s.heldTicks with
    | succ n => exact .inl ⟨rfl, n, rfl, rfl⟩
    | zero =>
      cases hi : s.inputs with
      | nil => exact .inr (.inl ⟨.inr rfl, rfl, rfl⟩)
      | cons e rest => exact .inr (.inr ⟨.inr rfl, e, rest, rfl, rfl⟩)

/-- A step that answers a next state idled, or ran one instruction on the state less the event it took. -/
theorem step_cases {s t : State} (h : step s = .next t) :
    t = s ∨ ∃ i s', exec i s' = .next t ∧
      ((∃ n, s.pulseBusy = false ∧ s.heldTicks = n + 1 ∧
          i = .tick (Config.switchLevels s.switchSamples).1 (Config.switchLevels s.switchSamples).2 ∧
          s' = { s with heldTicks := n, switchSamples := s.switchSamples + 1 }) ∨
       (∃ e rest, s.inputs = e :: rest ∧ decode e = .ok i ∧ s' = { s with inputs := rest })) := by
  unfold step at h
  rcases fetch_cases s with ⟨hb, n, hn, hf⟩ | ⟨_, _, hf⟩ | ⟨_, e, rest, he, hf⟩
  · rw [hf] at h
    exact .inr ⟨_, _, h, .inl ⟨n, hb, hn, rfl, rfl⟩⟩
  · rw [hf] at h
    cases h
    exact .inl rfl
  · rw [hf] at h
    cases hd : decode e with
    | error w =>
      rw [hd] at h
      cases h
    | ok i =>
      rw [hd] at h
      exact .inr ⟨i, _, h, .inr ⟨e, rest, he, hd, rfl⟩⟩

end Sys2Proof.Machine
end

