-- ==== Sys2Proof/Laws/PerInstr.lean ====
section
/-! SUPPORT. Statements made of every instruction, one lemma for each constructor. -/

namespace Sys2Proof.Laws

/-- The encoding of an instruction comes in by the port of its format, and only the internal stages have none
(30_encoding.md R92, R110). -/
def EncodeFormat.Statement (i : Instr) : Prop :=
  match encode i with
  | some e => e.format = i.format ∧ i.format ≠ .internal
  | none => i.format = .internal

theorem EncodeFormat.regRead (addr : Addr) : EncodeFormat.Statement (.regRead addr) := ⟨rfl, by intro h; cases h⟩
theorem EncodeFormat.regWrite (addr : Addr) (data : Word) (linkOk : Bool) : EncodeFormat.Statement (.regWrite addr data linkOk) := ⟨rfl, by intro h; cases h⟩
theorem EncodeFormat.nop : EncodeFormat.Statement .nop := ⟨rfl, by decide⟩
theorem EncodeFormat.commit : EncodeFormat.Statement .commit := ⟨rfl, by decide⟩
theorem EncodeFormat.enterSafeModeCmd : EncodeFormat.Statement .enterSafeModeCmd := ⟨rfl, by decide⟩
theorem EncodeFormat.startCalibration : EncodeFormat.Statement .startCalibration := ⟨rfl, by decide⟩
theorem EncodeFormat.clearSticky : EncodeFormat.Statement .clearSticky := ⟨rfl, by decide⟩
theorem EncodeFormat.start (linkOk : Bool) : EncodeFormat.Statement (.start linkOk) := ⟨rfl, by intro h; cases h⟩
theorem EncodeFormat.shutdown : EncodeFormat.Statement .shutdown := ⟨rfl, by decide⟩
theorem EncodeFormat.reservedCmd (opc : BitVec 8) : EncodeFormat.Statement (.reservedCmd opc) := ⟨rfl, by intro h; cases h⟩
theorem EncodeFormat.frame (ch : Vector (BitVec 16) 10) (pad : Vector Byte 8) (ck : BitVec 16) : EncodeFormat.Statement (.frame ch pad ck) := ⟨rfl, by intro h; cases h⟩
theorem EncodeFormat.rxByte (b : Byte) : EncodeFormat.Statement (.rxByte b) := ⟨rfl, by intro h; cases h⟩
theorem EncodeFormat.tick (sw1 sw2 : Bool) : EncodeFormat.Statement (.tick sw1 sw2) := ⟨rfl, by intro h; cases h⟩
theorem EncodeFormat.advance (n : Time) : EncodeFormat.Statement (.advance n) := ⟨rfl, by intro h; cases h⟩
theorem EncodeFormat.reset : EncodeFormat.Statement .reset := ⟨rfl, by decide⟩
theorem EncodeFormat.parse : EncodeFormat.Statement .parse := rfl
theorem EncodeFormat.failsafe (frameOk : Bool) : EncodeFormat.Statement (.failsafe frameOk) := rfl
theorem EncodeFormat.mix : EncodeFormat.Statement .mix := rfl
theorem EncodeFormat.calStep (sw1 sw2 : Bool) : EncodeFormat.Statement (.calStep sw1 sw2) := rfl
theorem EncodeFormat.profile (a : Axis) : EncodeFormat.Statement (.profile a) := rfl
theorem EncodeFormat.step (a : Axis) : EncodeFormat.Statement (.step a) := rfl
theorem EncodeFormat.emitPulse (a : Axis) (d : Bool) : EncodeFormat.Statement (.emitPulse a d) := rfl
theorem EncodeFormat.enterSafeMode : EncodeFormat.Statement .enterSafeMode := rfl

end Sys2Proof.Laws
end

