-- ==== Sys2Proof/Laws/Tick.lean ====
section
/-! SUPPORT. What a whole tick can do: the receive stages, the motion stages, the fields each leaves alone, and the same for
the calibration stage. -/

namespace Sys2Proof.Machine

/-! ### Axes -/

/-- The changed axis, and every other axis. -/
theorem State.axis_updAxis (s : State) (a b : Axis) (f : AxisState → AxisState) :
    (s.updAxis a f).axis b = if b = a then f (s.axis b) else s.axis b := PerAxis.get_upd _ _ _ _

theorem State.updAxis_eq (s : State) (a : Axis) (f : AxisState → AxisState) :
    s.updAxis a f = { s with axes := (s.updAxis a f).axes } := rfl

/-- A pulse is in flight exactly when some axis's falling edge lies ahead (46_control_loop.md R229). -/
theorem State.pulseBusy_iff (s : State) : s.pulseBusy = true ↔ ∃ a, s.time.toNat < (s.axis a).pend.toNat := by
  simp only [State.pulseBusy, AxisState.inFlight, Bool.or_eq_true, decide_eq_true_eq]
  constructor
  · rintro (((h | h) | h) | h)
    exacts [⟨.steering, h⟩, ⟨.throttle, h⟩, ⟨.brake, h⟩, ⟨.transmission, h⟩]
  · rintro ⟨a, h⟩
    cases a
    exacts [.inl (.inl (.inl h)), .inl (.inl (.inr h)), .inl (.inr h), .inr h]

/-! ### The receive stages -/

/-- What PARSE, FAILSAFE and MIX do together: no frame; a frame with a valid signal, mixed; a further lost signal; the first
lost signal, which enters safe mode (46_control_loop.md R231). -/
theorem receiveStages_cases (s : State) :
    ((scan s.rxBuf).2 = false ∧ receiveStages s = (parse s).1) ∨
    ((scan s.rxBuf).2 = true ∧ 800 ≤ (parse s).1.ch[6].toNat ∧
      receiveStages s = mix { (parse s).1 with connLost := false }) ∨
    ((scan s.rxBuf).2 = true ∧ (parse s).1.ch[6].toNat < 800 ∧ s.connLost = true ∧ receiveStages s = (parse s).1) ∨
    ((scan s.rxBuf).2 = true ∧ (parse s).1.ch[6].toNat < 800 ∧ s.connLost = false ∧
      receiveStages s = enterSafeMode { (parse s).1 with connLost := true }) := by
  have hu : receiveStages s =
      if (parse s).2 && (failsafe (parse s).2 (parse s).1).2 then mix (failsafe (parse s).2 (parse s).1).1
      else (failsafe (parse s).2 (parse s).1).1 := rfl
  rw [hu]
  rcases parse_cases s with ⟨h, hp⟩ | ⟨h, hp⟩ <;> rw [hp] <;> simp only
  · rcases failsafe_cases true
      { s with
        rxBuf := s.rxBuf.drop ((scan s.rxBuf).1 + 32), ch := channelsOf (s.rxBuf.drop (scan s.rxBuf).1)
        dropCnt := s.dropCnt + BitVec.ofNat 32 (scan s.rxBuf).1, frameCnt := s.frameCnt + 1 }
      with ⟨hf, _⟩ | ⟨_, hc, hf⟩ | ⟨_, hc, hl, hf⟩ | ⟨_, hc, hl, hf⟩
    · cases hf
    · rw [hf]
      exact .inr (.inl ⟨h, hc, rfl⟩)
    · rw [hf]
      exact .inr (.inr (.inl ⟨h, hc, hl, rfl⟩))
    · rw [hf]
      exact .inr (.inr (.inr ⟨h, hc, hl, rfl⟩))
  · exact .inl ⟨h, rfl⟩

/-- PARSE writes no field but the buffer, the channels and the two counters. -/
theorem parse_frame (s : State) :
    (parse s).1 =
      { s with
        rxBuf := (parse s).1.rxBuf, ch := (parse s).1.ch, dropCnt := (parse s).1.dropCnt
        frameCnt := (parse s).1.frameCnt } := by
  rcases parse_cases s with ⟨_, h⟩ | ⟨_, h⟩ <;> rw [h]

/-- The steering pin, as one update. -/
theorem steeringPin_eq (s : State) :
    steeringPin s =
      { s with
        axes := { s.axes with steering :=
          { s.axes.steering with pos := if s.firstDone then s.axes.steering.pos else 0 } }
        firstDone := true } := by
  by_cases h : s.firstDone = true
  · rw [steeringPin, if_pos h]
    cases s
    cases h
    rfl
  · rw [steeringPin, if_neg h]
    simp [h]

/-- MIX writes no field but the axes and the pin's flag. -/
theorem mix_frame (s : State) : mix s = { s with axes := (mix s).axes, firstDone := true } := by
  rw [mix, steeringPin_eq]
  rfl

/-- MIX writes no field of an axis but its target and the steering's position. -/
theorem mix_axis (s : State) (a : Axis) :
    (mix s).axis a = { s.axis a with tgt := ((mix s).axis a).tgt, pos := ((mix s).axis a).pos } := by
  rw [mix, steeringPin_eq]
  cases a <;> rfl

/-- MIX leaves every position but the steering's. -/
theorem mix_pos (s : State) {a : Axis} (h : a ≠ .steering) : ((mix s).axis a).pos = (s.axis a).pos := by
  rw [mix, steeringPin_eq]
  cases a <;> first | rfl | exact absurd rfl h

/-- Safe-mode entry writes no field of an axis but its target. -/
theorem enterSafeMode_axis (s : State) (a : Axis) :
    (enterSafeMode s).axis a = { s.axis a with tgt := ((enterSafeMode s).axis a).tgt } := by cases a <;> rfl

theorem enterSafeMode_pos (s : State) (a : Axis) : ((enterSafeMode s).axis a).pos = (s.axis a).pos := by cases a <;> rfl

/-- The fields the receive stages may write. -/
theorem receiveStages_frame (s : State) :
    receiveStages s =
      { s with
        rxBuf := (parse s).1.rxBuf, ch := (parse s).1.ch, dropCnt := (parse s).1.dropCnt
        frameCnt := (parse s).1.frameCnt, axes := (receiveStages s).axes, connLost := (receiveStages s).connLost
        firstDone := (receiveStages s).firstDone, safeCnt := (receiveStages s).safeCnt } := by
  have hp := parse_frame s
  rcases receiveStages_cases s with ⟨_, h⟩ | ⟨_, _, h⟩ | ⟨_, _, _, h⟩ | ⟨_, _, _, h⟩ <;> rw [h]
  · rw [hp]
  · rw [mix_frame, hp]
  · rw [hp]
  · rw [hp]
    rfl

/-- The fields of an axis the receive stages may write: its target, and the steering's position. -/
theorem receiveStages_axis (s : State) (a : Axis) :
    (receiveStages s).axis a =
      { s.axis a with tgt := ((receiveStages s).axis a).tgt, pos := ((receiveStages s).axis a).pos } := by
  have hp : ∀ a, (parse s).1.axis a = s.axis a := by
    intro a
    rw [parse_frame]
    rfl
  rcases receiveStages_cases s with ⟨_, h⟩ | ⟨_, _, h⟩ | ⟨_, _, _, h⟩ | ⟨_, _, _, h⟩ <;> rw [h]
  · rw [hp]
  · have e : State.axis { (parse s).1 with connLost := false } a = s.axis a := hp a
    exact (mix_axis _ a).trans (by rw [e])
  · rw [hp]
  · have e : State.axis { (parse s).1 with connLost := true } a = s.axis a := hp a
    have e' : ((enterSafeMode { (parse s).1 with connLost := true }).axis a).pos = (s.axis a).pos  := by
      rw [enterSafeMode_pos, e]
    exact (enterSafeMode_axis _ a).trans (by rw [e, e'])

/-- The receive stages leave every position but the steering's. -/
theorem receiveStages_pos (s : State) {a : Axis} (ha : a ≠ .steering) :
    ((receiveStages s).axis a).pos = (s.axis a).pos := by
  have hp : (parse s).1.axis a = s.axis a := by
    rw [parse_frame]
    rfl
  rcases receiveStages_cases s with ⟨_, h⟩ | ⟨_, _, h⟩ | ⟨_, _, _, h⟩ | ⟨_, _, _, h⟩ <;> rw [h]
  · rw [hp]
  · rw [mix_pos _ ha]
    exact congrArg AxisState.pos hp
  · rw [hp]
  · rw [enterSafeMode_pos]
    exact congrArg AxisState.pos hp

/-- Where no frame is delivered the receive stages leave the axes, the failsafe state and its counters. -/
theorem receiveStages_silent {s : State} (h : (scan s.rxBuf).2 = false) :
    receiveStages s =
      { s with
        rxBuf := s.rxBuf.drop (scan s.rxBuf).1, dropCnt := s.dropCnt + BitVec.ofNat 32 (scan s.rxBuf).1 } := by
  rcases receiveStages_cases s with ⟨_, hr⟩ | ⟨ht, _⟩ | ⟨ht, _⟩ | ⟨ht, _⟩
  · rcases parse_cases s with ⟨ht, _⟩ | ⟨_, hp⟩
    · rw [h] at ht
      cases ht
    · rw [hr, hp]
  all_goals
    rw [h] at ht
    cases ht

/-! ### The calibration stage -/

/-- The fields CAL_STEP may write. -/
theorem calStep_frame (P : Params) (sw1 sw2 : Bool) (s : State) :
    calStep P sw1 sw2 s =
      { s with
        axes := (calStep P sw1 sw2 s).axes, calActive := (calStep P sw1 sw2 s).calActive
        calAxis := (calStep P sw1 sw2 s).calAxis, calPhase := (calStep P sw1 sw2 s).calPhase
        calCount := (calStep P sw1 sw2 s).calCount, calTtrig := (calStep P sw1 sw2 s).calTtrig
        calLast := (calStep P sw1 sw2 s).calLast, calResThrottle := (calStep P sw1 sw2 s).calResThrottle
        calResBrake := (calStep P sw1 sw2 s).calResBrake } := by
  have hc : s.calAxis = .throttle ∨ s.calAxis = .brake := by cases s.calAxis <;> simp
  rcases calStep_cases P sw1 sw2 s with h | ⟨_, _, _, h⟩ | ⟨_, _, _, _, h⟩ | ⟨_, _, _, _, _, h⟩ | ⟨_, _, _, _, h⟩ |
    ⟨_, _, _, _, _, h⟩ <;> rw [h]
  · rcases hc with hc | hc
    · rw [calFinish_throttle _ hc]
    · rw [calFinish_brake _ hc]
  · rfl
  · rcases hc with hc | hc
    · rw [calFinish_throttle (s := s.updAxis s.calAxis.axis homeAxis) _ hc]
      rfl
    · rw [calFinish_brake (s := s.updAxis s.calAxis.axis homeAxis) _ hc]
      rfl
  · rfl

/-- What CAL_STEP can do to an axis: nothing; to the one that was being homed, the release, the release after DONE, or a
pulse (45_calibration.md R202–R215). -/
theorem calStep_axis (P : Params) (sw1 sw2 : Bool) (s : State) (a : Axis) :
    (calStep P sw1 sw2 s).axis a = s.axis a ∨
    (s.held a = true ∧ (calStep P sw1 sw2 s).held a = false ∧
      ((calStep P sw1 sw2 s).axis a = (s.axis a).restartVelocityTime s.time ∨
       (calStep P sw1 sw2 s).axis a = (homeAxis (s.axis a)).restartVelocityTime s.time)) ∨
    (s.held a = true ∧ (calStep P sw1 sw2 s).held a = true ∧
      ∃ d, (calStep P sw1 sw2 s).axis a = (s.axis a).emitPulse P s.time d) := by
  have hc : s.calAxis = .throttle ∨ s.calAxis = .brake := by cases s.calAxis <;> simp
  rcases calStep_cases P sw1 sw2 s with h | ⟨_, _, _, h⟩ | ⟨ha, _, _, _, h⟩ | ⟨ha, _, _, _, _, h⟩ | ⟨ha, _, _, _, h⟩ |
    ⟨ha, _, _, _, _, h⟩ <;> rw [h]
  · exact .inl rfl
  · exact .inl rfl
  · rcases hc with hc | hc
    · rw [calFinish_throttle _ hc]
      cases a <;> first | exact .inl rfl | exact .inr (.inl ⟨by simp [State.held, ha, hc, CalAxis.axis], by simp [State.held, CalAxis.axis], .inl rfl⟩)
    · rw [calFinish_brake _ hc]
      cases a <;> first | exact .inl rfl | exact .inr (.inl ⟨by simp [State.held, ha, hc, CalAxis.axis], by simp [State.held], .inl rfl⟩)
  · rcases hc with hc | hc <;> cases a <;> simp only [calPulse, State.emitPulse, hc] <;>
      first
        | exact .inl rfl
        | exact .inr (.inr ⟨by simp [State.held, ha, hc, CalAxis.axis], by simp [State.held, ha, hc, CalAxis.axis], _, rfl⟩)
  · rcases hc with hc | hc
    · rw [calFinish_throttle (s := s.updAxis s.calAxis.axis homeAxis) _ hc, hc]
      cases a <;> first | exact .inl rfl | exact .inr (.inl ⟨by simp [State.held, ha, hc, CalAxis.axis], by simp [State.held, CalAxis.axis], .inr rfl⟩)
    · rw [calFinish_brake (s := s.updAxis s.calAxis.axis homeAxis) _ hc, hc]
      cases a <;> first | exact .inl rfl | exact .inr (.inl ⟨by simp [State.held, ha, hc, CalAxis.axis], by simp [State.held], .inr rfl⟩)
  · rcases hc with hc | hc <;> cases a <;> simp only [calPulse, State.emitPulse, hc] <;>
      first
        | exact .inl rfl
        | exact .inr (.inr ⟨by simp [State.held, ha, hc, CalAxis.axis], by simp [State.held, ha, hc, CalAxis.axis], _, rfl⟩)

/-- An inactive sequencer does nothing (45_calibration.md R203). -/
theorem calStep_inactive (P : Params) (sw1 sw2 : Bool) {s : State} (h : s.calActive = false) :
    calStep P sw1 sw2 s = s := by simp [calStep, h]

/-! ### The motion stages -/

/-- The motion of one axis: PROFILE, then STEP (46_control_loop.md R231). -/
theorem axisStages_axis (P : Params) (a b : Axis) (s : State) :
    (axisStages P a s).axis b =
      if b = a ∧ s.held b = false then
        stepAxis P s.active b s.time (profileAxis P (s.settings b) s.time (s.axis b))
      else s.axis b := by
  unfold axisStages
  cases hh : s.held a
  · by_cases hb : b = a
    · subst hb
      simp only [Bool.false_eq_true, if_false, true_and, hh, if_true]
      simp only [stepStage, profile, State.axis_updAxis, if_true]
      rfl
    · simp [stepStage, profile, State.axis_updAxis, hb]
  · by_cases hb : b = a
    · subst hb
      simp [hh]
    · simp [hb]

theorem axisStages_frame (P : Params) (a : Axis) (s : State) :
    axisStages P a s = { s with axes := (axisStages P a s).axes } := by
  unfold axisStages
  split <;> rfl

/-- The axes after the motion of one axis, as one update: nothing but TIME, the settings and the calibration's hold is read. -/
theorem axisStages_axes (P : Params) (a : Axis) (s : State) :
    (axisStages P a s).axes =
      if s.held a then s.axes
      else s.axes.upd a fun x => stepAxis P s.active a s.time (profileAxis P (s.settings a) s.time x) := by
  apply PerAxis.ext_get
  intro b
  have h := axisStages_axis P a b s
  simp only [State.axis] at h
  rw [h]
  by_cases hb : b = a
  · subst hb
    cases hh : s.held b <;> simp
  · cases hh : s.held a <;> simp [PerAxis.get_upd_ne, hb]

theorem axisStages_held (P : Params) (a b : Axis) (s : State) : (axisStages P a s).held b = s.held b := by
  rw [axisStages_frame]
  rfl

/-- The motion stages write nothing but the axes. -/
theorem motionStages_frame (P : Params) (s : State) : motionStages P s = { s with axes := (motionStages P s).axes } := by
  unfold motionStages
  rw [axisStages_frame P .transmission, axisStages_frame P .brake, axisStages_frame P .throttle,
    axisStages_frame P .steering]

/-- Each axis moves by itself, from its own state before the motion stages, unless it is held. -/
theorem motionStages_axis (P : Params) (s : State) (a : Axis) :
    (motionStages P s).axis a =
      if s.held a then s.axis a
      else stepAxis P s.active a s.time (profileAxis P (s.settings a) s.time (s.axis a)) := by
  have hact : ∀ b s, (axisStages P b s).active = s.active := fun b s => by rw [axisStages_frame]
  have htime : ∀ b s, (axisStages P b s).time = s.time := fun b s => by rw [axisStages_frame]
  have hset : ∀ b c s, (axisStages P b s).settings c = s.settings c := fun b c s => by rw [State.settings, hact]; rfl
  unfold motionStages
  cases hh : s.held a <;> cases a <;>
    simp [axisStages_axis, axisStages_held, hact, htime, hset, hh]

/-! ### The tick -/

/-- A tick of a running block: receive, calibrate, move. -/
theorem tick_running (P : Params) (sw1 sw2 : Bool) {s : State} (h : s.run = true) :
    tick P sw1 sw2 s = motionStages P (calStep P sw1 sw2 (receiveStages s)) := by simp [tick, h]

/-- The answer a stage gives when it is run alone is read by no later stage (log 6). -/
theorem axisStages_result (P : Params) (a : Axis) (s : State) (r : Word) :
    axisStages P a { s with result := r } = { axisStages P a s with result := r } := by
  rw [axisStages_frame P a s, axisStages_frame P a { s with result := r }, axisStages_axes, axisStages_axes]
  rfl

theorem motionStages_result (P : Params) (s : State) (r : Word) :
    motionStages P { s with result := r } = { motionStages P s with result := r } := by
  unfold motionStages
  rw [axisStages_result P .steering s r, axisStages_result P .throttle _ r, axisStages_result P .brake _ r,
    axisStages_result P .transmission _ r]

theorem calFinish_result (q : CalRes) (s : State) (r : Word) :
    calFinish q { s with result := r } = { calFinish q s with result := r } := by
  have hc : s.calAxis = .throttle ∨ s.calAxis = .brake := by cases s.calAxis <;> simp
  rcases hc with hc | hc
  · rw [calFinish_throttle q hc, calFinish_throttle (s := { s with result := r }) q hc]
  · rw [calFinish_brake q hc, calFinish_brake (s := { s with result := r }) q hc]

theorem calSeek_result (P : Params) (sw1 sw2 : Bool) (s : State) (r : Word) :
    calSeek P sw1 sw2 { s with result := r } = { calSeek P sw1 sw2 s with result := r } := by
  have hd : calStepDue P { s with result := r } = calStepDue P s := rfl
  unfold calSeek
  rw [hd, calFinish_result]
  split
  · rfl
  · split
    · rfl
    · split <;> rfl

theorem calBackOff_result (P : Params) (s : State) (r : Word) :
    calBackOff P { s with result := r } = { calBackOff P s with result := r } := by
  have hd : calStepDue P { s with result := r } = calStepDue P s := rfl
  have hf : calFinish .ok (State.updAxis { s with result := r } s.calAxis.axis homeAxis) =
      { calFinish .ok (s.updAxis s.calAxis.axis homeAxis) with result := r } :=
    calFinish_result .ok (s.updAxis s.calAxis.axis homeAxis) r
  unfold calBackOff
  rw [hd, hf]
  split
  · rfl
  · split
    · rfl
    · split <;> rfl

theorem calStep_result (P : Params) (sw1 sw2 : Bool) (s : State) (r : Word) :
    calStep P sw1 sw2 { s with result := r } = { calStep P sw1 sw2 s with result := r } := by
  by_cases ha : s.calActive = true
  · have hp : s.calPhase = .idle ∨ s.calPhase = .seeking ∨ s.calPhase = .backingOff := by cases s.calPhase <;> simp
    rcases hp with hp | hp | hp <;> simp only [calStep, ha, hp, if_true]
    · rw [← ha, ← hp]
      exact calSeek_result P sw1 sw2 s r
    · rw [← ha, ← hp]
      exact calBackOff_result P s r
  · have hf : s.calActive = false := by simpa using ha
    rw [calStep_inactive P sw1 sw2 hf]
    exact calStep_inactive P sw1 sw2 hf

theorem mix_result (s : State) (r : Word) : mix { s with result := r } = { mix s with result := r } := by
  rw [mix, mix, steeringPin_eq, steeringPin_eq]
  rfl

theorem failsafe_result (f : Bool) (s : State) (r : Word) :
    failsafe f { s with result := r } = ({ (failsafe f s).1 with result := r }, (failsafe f s).2) := by
  have hs : signalOk { s with result := r } = signalOk s := rfl
  unfold failsafe
  rw [hs]
  cases f
  · rfl
  · simp only [if_true]
    split
    · rfl
    · split <;> rfl

/-- The state before the motion stages: the fields the first four stages may write. -/
theorem preMotion_frame (P : Params) (sw1 sw2 : Bool) (s : State) :
    calStep P sw1 sw2 (receiveStages s) =
      { calStep P sw1 sw2 (receiveStages s) with
        time := s.time, run := s.run, rxOvf := s.rxOvf, linkFail := s.linkFail, badCmd := s.badCmd, shadow := s.shadow
        active := s.active, heldTicks := s.heldTicks, inputs := s.inputs, switchSamples := s.switchSamples, result := s.result
        rxBuf := (parse s).1.rxBuf, ch := (parse s).1.ch, dropCnt := (parse s).1.dropCnt
        frameCnt := (parse s).1.frameCnt, connLost := (receiveStages s).connLost
        firstDone := (receiveStages s).firstDone, safeCnt := (receiveStages s).safeCnt } := by
  rw [calStep_frame, receiveStages_frame]

/-- The fields a tick may not write, and what it makes of the receive buffer, the channels and the failsafe state. -/
theorem tick_frame (P : Params) (sw1 sw2 : Bool) {s : State} (h : s.run = true) :
    tick P sw1 sw2 s =
      { tick P sw1 sw2 s with
        time := s.time, run := s.run, rxOvf := s.rxOvf, linkFail := s.linkFail, badCmd := s.badCmd, shadow := s.shadow
        active := s.active, heldTicks := s.heldTicks, inputs := s.inputs, switchSamples := s.switchSamples, result := s.result
        rxBuf := (parse s).1.rxBuf, ch := (parse s).1.ch, dropCnt := (parse s).1.dropCnt
        frameCnt := (parse s).1.frameCnt, connLost := (receiveStages s).connLost
        firstDone := (receiveStages s).firstDone, safeCnt := (receiveStages s).safeCnt } := by
  rw [tick_running P sw1 sw2 h, motionStages_frame, preMotion_frame]

/-- Each axis of a tick, from the state before the motion stages. -/
theorem tick_axis (P : Params) (sw1 sw2 : Bool) {s : State} (h : s.run = true) (a : Axis) :
    (tick P sw1 sw2 s).axis a =
      if (calStep P sw1 sw2 (receiveStages s)).held a then (calStep P sw1 sw2 (receiveStages s)).axis a
      else stepAxis P s.active a s.time
        (profileAxis P (s.settings a) s.time ((calStep P sw1 sw2 (receiveStages s)).axis a)) := by
  rw [tick_running P sw1 sw2 h, motionStages_axis, preMotion_frame]
  rfl

theorem tick_held (P : Params) (sw1 sw2 : Bool) {s : State} (h : s.run = true) (a : Axis) :
    (tick P sw1 sw2 s).held a = (calStep P sw1 sw2 (receiveStages s)).held a := by
  rw [tick_running P sw1 sw2 h, motionStages_frame]
  rfl

end Sys2Proof.Machine
end

