-- ==== Sys2Proof/Tests/Slice0.lean ====
section
/-! SUPPORT. Tests: ill-formed terms refused, one written-out word for each constructor, the spec's own vectors
(spec/95_test_vectors.md, with its test-only parameters), and a witness for every hypothesis of the statements. -/

namespace Sys2Proof.Tests

open Sys2Proof Sys2Proof.Machine

/-! ### Well-formedness: each check refuses an ill-formed term -/

theorem test_regWrite_cmd_ill_formed : (Instr.regWrite 0x01 0 false).wellFormed = false := by decide
theorem test_reservedCmd_low_ill_formed : (Instr.reservedCmd 0x06).wellFormed = false := by decide
theorem test_advance_zero_ill_formed : (Instr.advance 0).wellFormed = false := by decide
theorem test_reservedCmd_seven_well_formed : (Instr.reservedCmd 0x07).wellFormed = true := by decide

/-! ### Decoding: words written out from 30_encoding.md -/

/-- W = 0 in bit 40, A = 0x4A in bits 39:32, D = 0 (R99). -/
theorem test_decode_regRead :
    decode (.bus 0b0_01001010_00000000000000000000000000000000 0) = .ok (.regRead 0x4A) := by decide
/-- W = 1, A = 0x26, D = 0x80000FA0 (R99; R251's example). -/
theorem test_decode_regWrite :
    decode (.bus 0b1_00100110_10000000000000000000111110100000 0) = .ok (.regWrite 0x26 0x80000FA0 false) := by decide
/-- W = 1, A = 0x01, D[7:0] = 0x00; D[31:8] selects nothing (R100, R101). -/
theorem test_decode_nop : decode (.bus 0b1_00000001_10000000000000000000000100000000 0) = .ok .nop := by decide
theorem test_decode_commit : decode (.bus 0b1_00000001_00000000000000000000000000000001 0) = .ok .commit := by decide
theorem test_decode_enterSafeModeCmd :
    decode (.bus 0b1_00000001_00000000000000000000000000000010 0) = .ok .enterSafeModeCmd := by decide
theorem test_decode_startCalibration :
    decode (.bus 0b1_00000001_00000000000000000000000000000011 0) = .ok .startCalibration := by decide
theorem test_decode_clearSticky :
    decode (.bus 0b1_00000001_00000000000000000000000000000100 0) = .ok .clearSticky := by decide
theorem test_decode_start :
    decode (.bus 0b1_00000001_00000000000000000000000000000101 1) = .ok (.start true) := by decide
theorem test_decode_shutdown :
    decode (.bus 0b1_00000001_00000000000000000000000000000110 0) = .ok .shutdown := by decide
/-- The first reserved opcode and the last (R102). -/
theorem test_decode_reservedCmd :
    decode (.bus 0b1_00000001_00000000000000000000000000000111 0) = .ok (.reservedCmd 0x07) ∧
    decode (.bus 0b1_00000001_00000000000000000000000011111111 0) = .ok (.reservedCmd 0xFF) := by decide
/-- Reference frame Q of 95_test_vectors.md, all 32 bytes: its channels, its pad bytes, its checksum 0xF70B. -/
theorem test_decode_frame :
    decode (.wire [0x20, 0x40, 0xDC, 0x05, 0xDC, 0x05, 0xDC, 0x05, 0xDC, 0x05, 0xDC, 0x05, 0xDC, 0x05, 0x84, 0x03, 0xDC, 0x05,
      0xDC, 0x05, 0xDC, 0x05, 0x01, 0x02, 0x03, 0x04, 0x05, 0x06, 0x07, 0x08, 0x0B, 0xF7]) =
    .ok (.frame #v[1500, 1500, 1500, 1500, 1500, 1500, 900, 1500, 1500, 1500] #v[1, 2, 3, 4, 5, 6, 7, 8] 0xF70B) := by
  decide
theorem test_decode_rxByte : decode (.rxByte 0b10100101) = .ok (.rxByte 0xA5) := by decide
/-- sw1 = 0 (triggered), sw2 = 1 (R103). -/
theorem test_decode_tick : decode (.tick 0 1) = .ok (.tick false true) := by decide
theorem test_decode_advance : decode (.advance 18446744073709551615) = .ok (.advance 0xFFFFFFFFFFFFFFFF) := by decide
theorem test_decode_reset : decode .reset = .ok .reset := by decide
/-- The internal stages have no encoding (R110). -/
theorem test_internal_not_encoded :
    encode .parse = none ∧ encode (.failsafe true) = none ∧ encode .mix = none ∧ encode (.calStep true true) = none ∧
    encode (.profile .brake) = none ∧ encode (.step .brake) = none ∧ encode (.emitPulse .brake true) = none ∧
    encode .enterSafeMode = none := by decide
/-- The table's own numbering: the FRAME row's match 0x2040, and TICK's two bits. -/
theorem test_decodeTableWord :
    decodeTableWord 16 0x2040 = some (.frame #v[0, 0, 0, 0, 0, 0, 0, 0, 0, 0] #v[0, 0, 0, 0, 0, 0, 0, 0] 0) ∧
    decodeTableWord 2 0b10 = some (.tick true false) := by decide
/-- A wire unit with another second byte, or of 31 bytes, is no frame (R93, R94). -/
theorem test_decode_not_a_frame :
    decode (.wire (0x20 :: 0x41 :: List.replicate 30 0)) = .error .notAFrameWindow ∧
    decode (.wire (0x20 :: 0x40 :: List.replicate 29 0)) = .error .notAFrameWindow := by decide

/-! ### The spec's vectors -/

/-- The test-only parameter values of 95_test_vectors.md, section 0. -/
def params : Params :=
  { deadBandLess1 := 1, minStepIntervalLess1 := 99, pprLess1 := 199, pulseWidthLess1 := 4, dirSetupUs := 2
    steerSpeedMax := 3000, rxbufDepthLess32 := 224, calStepBudget := 3, calBackoffSteps := 2, calDebounceUs := 1000
    calStepPeriodUs := 100 }

/-- A running block just after reset: RESET, then START with `link_ok` = 1. -/
def running : State := start true State.reset

/-- Reference frames A and C (95_test_vectors.md, section 1). -/
def frameA : List Byte := enc #v[1500, 1000, 1000, 1500, 1500, 1500, 900, 1500, 1500, 1500]
def frameC : List Byte := enc #v[1500, 1500, 1000, 1500, 1500, 1500, 700, 1500, 1500, 1500]

/-- The printed bytes of frame A. -/
theorem test_frameA_bytes :
    frameA = [0x20, 0x40, 0xDC, 0x05, 0xE8, 0x03, 0xE8, 0x03, 0xDC, 0x05, 0xDC, 0x05, 0xDC, 0x05, 0x84, 0x03, 0xDC, 0x05,
      0xDC, 0x05, 0xDC, 0x05, 0, 0, 0, 0, 0, 0, 0, 0, 0x1B, 0xF7] := by decide
/-- V-F1: one byte of garbage, then frame A. -/
theorem test_parse_garbage :
    let s := (parse { running with rxBuf := 7 :: frameA }).1
    s.dropCnt = 1 ∧ s.frameCnt = 1 ∧ s.rxBuf = [] ∧ s.ch[6] = 900 := by decide
/-- V-F3: 40 bytes of 0x55. -/
theorem test_parse_no_frame :
    let s := (parse { running with rxBuf := List.replicate 40 0x55 }).1
    s.dropCnt = 9 ∧ s.frameCnt = 0 ∧ s.rxBuf.length = 31 := by decide
/-- V-F7: a byte is discarded while stopped; V-F9: with a depth of 32 the 33rd byte is lost. -/
theorem test_rxByte :
    (rxByte params 0x20 State.reset).rxBuf = [] ∧
    (rxByte { params with rxbufDepthLess32 := 0 } 0x11 { running with rxBuf := List.replicate 32 0x11 }).rxOvf = true := by decide
/-- FRAME arrives as its bytes, up to the depth. -/
theorem test_frame_arrives : (rxBytes params frameA running).rxBuf = frameA := by decide
/-- V-F6 and V-S1: frames A and C on two ticks; the second loses the signal. -/
theorem test_tick_failsafe :
    let s := tick params true true (tick params true true { running with rxBuf := frameA ++ frameC })
    s.frameCnt = 2 ∧ s.rxBuf = [] ∧ s.connLost = true ∧ s.safeCnt = 1 := by decide
/-- V-S3 and V-S2: 799 loses the signal, 800 is valid. -/
theorem test_failsafe_threshold :
    (failsafe true { running with ch := #v[0, 0, 0, 0, 0, 0, 799, 0, 0, 0] }).1.connLost = true ∧
    (failsafe true { running with ch := #v[0, 0, 0, 0, 0, 0, 800, 0, 0, 0] }).1.connLost = false := by decide
/-- V-S5: the safe targets; the transmission's is not written. -/
theorem test_enterSafeMode :
    let s := enterSafeMode
      { running with
        axes := ⟨AxisState.reset.setTarget 500, AxisState.reset.setTarget 800, AxisState.reset, AxisState.reset.setTarget (-200)⟩
        active := { running.active with axes := running.active.axes.upd .brake fun c => { c with limit := 3000 } } }
    s.axes.steering.tgt = 0 ∧ s.axes.throttle.tgt = 0 ∧ s.axes.brake.tgt = 3000 ∧ s.axes.transmission.tgt = -200 ∧
      s.safeCnt = 1 := by decide
/-- V-M1, V-M4, V-M5, V-M8: the steering target. -/
theorem test_mix_steering :
    steeringTarget 2000 15000 = 15000 ∧ steeringTarget 1499 700 = -1 ∧ steeringTarget 1750 700 = 350 ∧
    steeringTarget 65535 2147483647 = 2147483647 := by decide
/-- V-M11, V-M12, V-M15, V-M17, V-M18 to V-M21: the other targets. -/
theorem test_mix_others :
    throttleTarget 1501 4000 = 8 ∧ throttleTarget 1000 4000 = 0 ∧ brakeTarget 900 3000 = -300 ∧ brakeTarget 1001 999 = 0 ∧
    transmissionTarget 1199 500 800 = -500 ∧ transmissionTarget 1200 500 800 = 0 ∧ transmissionTarget 1800 500 800 = 0 ∧
    transmissionTarget 1801 500 800 = 800 := by decide
/-- V-M23: the one-shot pin, with the target of the same MIX. -/
theorem test_mix_pin :
    let s := mix { running with axes := running.axes.upd .steering fun x => { x with pos := 77 } }
    s.axes.steering.pos = 0 ∧ s.firstDone = true := by decide
/-- V-P1: 50 ms at 100 rpm/s from rest. -/
theorem test_profile_ramp :
    let x := profileAxis params ⟨10000, 100, 0⟩ 51000 { AxisState.reset with lvel := 1000 }
    x.vel = 5000000 ∧ x.inf = false ∧ x.ivl = 60000 ∧ x.lvel = 51000 := by decide
/-- V-P2: the ramp stops at the speed and the interval at its floor. -/
theorem test_profile_floor :
    let x := profileAxis params ⟨10000, 100, 0⟩ 200001000 { AxisState.reset with lvel := 1000 }
    x.vel = 10000000000 ∧ x.ivl = 100 := by decide

/-- An axis ready to step every 100 µs. -/
def mover (tgt : BitVec 32) : AxisState := { AxisState.reset with tgt := tgt, inf := false, ivl := 100, vel := 5 }
/-- Settings with every limit 100. -/
def limits : Settings := ⟨⟨⟨0, 0, 100⟩, ⟨0, 0, 100⟩, ⟨0, 0, 100⟩, ⟨0, 0, 100⟩⟩, 100⟩

/-- V-T7 and V-T8: no step at elapsed 99, one at 100. -/
theorem test_step_due :
    (stepAxis params limits .steering 99 (mover 10)).pos = 0 ∧ (stepAxis params limits .steering 100 (mover 10)).pos = 1 := by
  decide
/-- The throttle's inverted direction, the pulse times, and the dead band. -/
theorem test_step_pulse :
    let x := stepAxis params limits .throttle 150 (mover (-5))
    x.pos = -1 ∧ x.dir = true ∧ x.pstart = 152 ∧ x.pend = 157 ∧ x.lstep = 150 ∧
    (stepAxis params limits .throttle 150 (mover 1)).inf = true := by decide
/-- EmitPulse at TIME 150: the strobe is high from 152 to 156 and low at 157. -/
theorem test_emitPulse :
    let x := AxisState.reset.emitPulse params 150 true
    x.dir = true ∧ x.stepLevel 151 = false ∧ x.stepLevel 152 = true ∧ x.stepLevel 156 = true ∧ x.stepLevel 157 = false := by
  decide
/-- START_CALIBRATION: CAL_STATUS 0x1F (R258's example). -/
theorem test_startCalibration : calStatusWord (startCalibration running) = 0x1F := by decide
/-- A step toward the switch when due, then the trigger without a step. -/
theorem test_calStep_seek :
    let s := calStep params true true { startCalibration running with time := 100 }
    s.axes.throttle.dir = true ∧ s.axes.throttle.pstart = 102 ∧ s.calCount = 1 ∧
    (calStep params false true s).calPhase = .backingOff := by decide
/-- Exhausting the budget on the throttle: FAIL, and the brake seeks. -/
theorem test_calStep_budget :
    let s := calStep params true true { startCalibration running with calCount := 3 }
    s.calResThrottle = .fail ∧ s.calAxis = .brake ∧ s.calPhase = .seeking := by decide
/-- COMMIT at TIME 123456 (R257's example). -/
theorem test_commit :
    let s := commit { regWrite params 0x24 600 false running with time := 123456 }
    s.active.axes.throttle.speed = 600 ∧ s.axes.brake.lvel = 123456 := by decide
/-- R251's example, and the steering ceiling. -/
theorem test_regWrite :
    (regWrite params 0x26 0x80000FA0 false running).shadow.axes.throttle.limit = 4000 ∧
    (regWrite params 0x20 0xFFFF false running).shadow.axes.steering.speed = 3000 := by decide
/-- CLEAR_STICKY: STATUS 0x301 becomes 0x001 (R259's example). -/
theorem test_clearSticky :
    statusWord { running with rxOvf := true, linkFail := true } = 0x301 ∧
    statusWord (clearSticky { running with rxOvf := true, linkFail := true }) = 0x001 := by decide
/-- START without and with the transport (R260's example). -/
theorem test_start : statusWord (start false State.reset) = 0x200 ∧ statusWord (start true State.reset) = 1 := by decide
/-- SHUTDOWN leaves the outputs neutral (R261's example). -/
theorem test_shutdown :
    let s := shutdown { running with axes := running.axes.upd .brake fun x => { x with dir := true, vel := 7 } }
    s.run = false ∧ s.axes.brake.dir = false ∧ s.axes.brake.vel = 0 := by decide
theorem test_reservedCmd : statusWord (reservedCommand State.reset) = 0x400 := by decide

/-! ### One step of the machine -/

/-- What a step leaves, where it leaves a next state. -/
def after (s : State) : Option State :=
  match step s with
  | .next t => some t
  | .fault _ => none
  | .refused _ => none

/-- R250's example: after reset, a read of 0x00 answers the identification word. -/
theorem test_step_regRead : (after (State.reset.withFetchWord 48 0x00000000000)).map (·.result) = some 0x54484731 := by decide
theorem test_step_nop : after (State.reset.withFetchWord 48 0x10100000000) = some State.reset := by decide
theorem test_step_advance : (after (State.reset.withFetchWord 64 3)).map (·.time) = some 3 := by decide
theorem test_step_reset : after ({ running with time := 9 }.withFetchWord 0 0) = some State.reset := by decide
theorem test_step_frame_stopped : after (State.reset.withFetchWord 16 0x2040) = some State.reset := by decide
/-- A TICK during a pulse is held, and no level is kept: requests with other levels leave the same state. -/
theorem test_step_tick_held :
    let s : State := { running with axes := running.axes.upd .throttle fun x => { x with pend := 10 } }
    (after { s with inputs := [.tick 0 1] }).map (·.heldTicks) = some 1 ∧
    after { s with inputs := [.tick 0 1] } = after { s with inputs := [.tick 1 0] } := by decide
/-- V-L2: once ADVANCE has ended the pulse the held TICK runs, whatever levels it samples. -/
theorem test_step_held_tick_runs :
    let s : State := { State.reset with heldTicks := 1 }
    after s = some { State.reset with switchSamples := 1 } := rfl
/-- A stopped TICK has no effect. -/
theorem test_step_tick : after (State.reset.withFetchWord 2 3) = some State.reset := by decide

/-! ### Witnesses: a state and operands that meet each statement's hypotheses -/

/-- A running block with a pulse of the throttle in flight until TIME 10. -/
def pulsing : State := { running with axes := running.axes.upd .throttle fun x => { x with pend := 10 } }

/-- What meets the hypotheses of `Obligations.DecodeEncodeRoundTrip`. -/
theorem witness_DecodeEncodeRoundTrip :
    (Instr.regWrite 0xFF 0 true).wellFormed = true ∧ (Instr.reservedCmd 7).wellFormed = true ∧
    (Instr.advance 1).wellFormed = true ∧ (Instr.mix).wellFormed = true := by decide
theorem witness_DecodedIsWellFormed : decode (.bus 0x10100000007 0) = .ok (.reservedCmd 7) := by decide
/-- A valid frame, and a window whose header alone matches. -/
theorem witness_FrameValidity :
    32 ≤ frameA.length ∧ headerMatch frameA = true ∧ frameValid frameA = true ∧
    headerMatch (0x20 :: 0x40 :: List.replicate 30 0) = true := by decide
theorem witness_StepRunsDecodedInput :
    let s : State := { State.reset with inputs := [.rxByte 255] }
    (s.pulseBusy = true ∨ s.heldTicks = 0) ∧ s.inputs = .rxByte 255 :: [] ∧ decode (.rxByte 255) = .ok (.rxByte 255) ∧
    (Instr.rxByte 255).wellFormed = true := by decide
/-- The boundary: TIME reaches PEND exactly. -/
theorem witness_HeldTickRunsAfterAdvance :
    let s : State := { pulsing with inputs := [.tick 1 0, .advance 10] }
    s.pulseBusy = true ∧ s.heldTicks = 0 ∧ s.inputs = .tick true.toNat false.toNat :: .advance 10 :: [] ∧
    State.pulseBusy { s with time := s.time + 10 } = false := by decide
/-- The least value of each clause, and wire units that miss by one: 31 and 33 bytes, and each header byte wrong. -/
theorem witness_OutOfRangeInputsRefused :
    (State.reset.pulseBusy = true ∨ State.reset.heldTicks = 0) ∧
    256 ≤ 256 ∧ 2 ^ 64 ≤ 18446744073709551616 ∧ (2 ≤ 2 ∨ 2 ≤ 0) ∧ (2 ≤ 1 ∨ 2 ≤ 2) ∧
    (List.replicate 31 (0 : Byte)).length ≠ 32 ∧ (List.replicate 33 (0 : Byte)).length ≠ 32 ∧
    (∀ tail, (0x21 :: 0x40 :: List.replicate 30 (0 : Byte)) ≠ (0x20 :: 0x40 :: tail)) ∧
    ∀ tail, (0x20 :: 0x41 :: List.replicate 30 (0 : Byte)) ≠ (0x20 :: 0x40 :: tail) := by
  refine ⟨.inr rfl, ?_, ?_, ?_, ?_, ?_, ?_, ?_, ?_⟩ <;> simp
theorem witness_IdleWithoutEvents :
    (State.reset.pulseBusy = true ∨ State.reset.heldTicks = 0) ∧ State.reset.inputs = [] := by decide
theorem witness_RegistersReadAfterReset : exec .reset pulsing = .next State.reset := rfl
/-- An address of each clause, at the ends of its ranges. -/
theorem witness_ReservedSpaceIsInert :
    (0x0B#8).toNat = 0x0B ∧ 11 ≤ (0x4B#8).toNat % 16 ∧ 11 ≤ (0x7F#8).toNat % 16 ∧ 0x80 ≤ (0x80#8).toNat ∧
    0x80 ≤ (0xFF#8).toNat ∧ (0x02#8).toNat = 0x02 ∧ (0x07#8).toNat = 0x07 ∧ (0x3C#8).toNat % 4 = 0 ∧ 2 ≤ (0x2F#8).toNat % 4 ∧
    (0x43#8).toNat % 16 = 3 ∧ (0x75#8).toNat % 16 = 5 ∧ (0x7A#8).toNat % 16 = 10 ∧ (0x00#8).toNat < 0x20 ∧
    0x30 ≤ (0x30#8).toNat := by decide
theorem witness_RegisterWriteFrame : (0x00 : Addr) ≠ 0x01 ∧ (0x2F : Addr) ≠ 0x2E := by decide
/-- Commands whose ignored bits are set. -/
theorem witness_command_words :
    (0x100 : Word).toNat % 256 = 0 ∧ (0x101 : Word).toNat % 256 = 1 ∧ (0x104 : Word).toNat % 256 = 4 ∧
    (0x106 : Word).toNat % 256 = 6 ∧ 7 ≤ (0x107 : Word).toNat % 256 ∧ 7 ≤ (0xFF : Word).toNat % 256 ∧
    7 ≤ (0x07#8).toNat := by decide
theorem witness_SafeModeIdempotent :
    exec .enterSafeMode State.reset = .next { State.reset with safeCnt := 1 } ∧
    exec .enterSafeMode { State.reset with safeCnt := 1 } = .next { State.reset with safeCnt := 2 } := ⟨rfl, rfl⟩
theorem witness_StartNeedsTransport : running.run = true ∧ State.reset.run = false := by decide
theorem witness_ShutdownLeavesOutputsNeutral :
    (startCalibration running).calActive = true ∧ running.calActive = false := by decide
/-- Stopped; an empty buffer; a full buffer, whatever the depth. -/
theorem witness_RxByteArrives :
    State.reset.run = false ∧ (running.run = true ∧ running.rxBuf.length < Config.params.rxbufDepth) ∧
    ({ running with rxBuf := List.replicate Config.params.rxbufDepth 0 }.run = true ∧
      Config.params.rxbufDepth ≤ ({ running with rxBuf := List.replicate Config.params.rxbufDepth 0 } : State).rxBuf.length) := by
  have h := Config.params.rxbufDepth_bounds
  refine ⟨rfl, ⟨rfl, ?_⟩, rfl, ?_⟩
  · show 0 < _
    omega
  · simp
theorem witness_FrameBytesArrive :
    State.reset.run = false ∧ running.run = true ∧ running.rxBuf.length ≤ Config.params.rxbufDepth ∧
    ({ running with rxBuf := List.replicate Config.params.rxbufDepth 0 } : State).rxBuf.length ≤ Config.params.rxbufDepth := by
  simp [running, start, State.reset]
/-- Garbage that looks like a header, then frame A, then two bytes. -/
theorem witness_ParseDeliversAfterGarbage :
    let ch : Vector (BitVec 16) 10 := #v[1500, 1000, 1000, 1500, 1500, 1500, 900, 1500, 1500, 1500]
    let s : State := { running with rxBuf := [0x20, 0x40] ++ (frameA ++ [1, 2]) }
    s.rxBuf = [0x20, 0x40] ++ (frameBytes ch zeroPad (checksum (frameBody ch zeroPad)) ++ [1, 2]) ∧
    (∀ i < [0x20, 0x40].length, frameValid (s.rxBuf.drop i) = false) := by decide
theorem witness_ParseWithoutFrame :
    ∀ i, i + 32 ≤ (List.replicate 32 (0x55 : Byte)).length → frameValid ((List.replicate 32 (0x55 : Byte)).drop i) = false := by
  intro i h
  have : i = 0 := by
    simp at h
    omega
  subst this
  decide
theorem witness_ReceivedFrameRoundTrips : running.run = true ∧ running.rxBuf = [] := by decide
theorem witness_FailsafeTransitions :
    let s : State := { running with ch := #v[0, 0, 0, 0, 0, 0, 799, 0, 0, 0] }
    s.ch[6].toNat < 800 ∧ s.connLost = false ∧ { s with connLost := true }.connLost = true ∧
    800 ≤ ({ s with ch := #v[0, 0, 0, 0, 0, 0, 800, 0, 0, 0] } : State).ch[6].toNat := by decide
theorem witness_advance_operand : (1 : Time) ≠ 0 := by decide
/-- A step to a next state, for the statements of every step. -/
theorem witness_VelocityRange : step { State.reset with inputs := [.advance 1] } = .next { State.reset with time := 1 } := rfl
/-- Inside the dead band; outside it with a pulse due; outside it at rest, whatever the dead band. -/
theorem witness_StepMovesAxis :
    let far : AxisState := { AxisState.reset with pos := 0x80000000, inf := false }
    ((0 : Int) - AxisState.reset.pos.toInt).natAbs < Config.params.deadBand ∧
    (Config.params.deadBand ≤ ((0 : Int) - far.pos.toInt).natAbs ∧ far.inf = false ∧ far.ivl.toNat ≤ 0) ∧
    Config.params.deadBand ≤ ((0 : Int) - { far with inf := true }.pos.toInt).natAbs := by
  have h := Config.params.deadBandLess1.isLt
  have e : ((0 : Int) - (0x80000000#32).toInt).natAbs = 2147483648 := by decide
  refine ⟨Nat.succ_pos _, ⟨?_, rfl, Nat.le_refl 0⟩, ?_⟩ <;>
  · show Config.params.deadBandLess1.val + 1 ≤ ((0 : Int) - (0x80000000#32).toInt).natAbs
    omega
theorem witness_StepStaysInTravelRange : ∃ t, exec (.step .steering) running = .next t := ⟨_, rfl⟩
theorem witness_EmitPulseSchedulesStrobe :
    State.reset.time.toNat + Config.params.dirSetupUs.toNat + Config.params.pulseWidthUs < 2 ^ 64 := by
  have h₁ := Config.params.dirSetupUs.isLt
  have h₂ := Config.params.pulseWidth_bounds
  show 0 + _ + _ < _
  omega
/-- Seeking: triggered; the budget spent, on each axis; and, where the parameters admit them at all, a step due and a step
not due. -/
theorem witness_CalibrationSeeks :
    let s := startCalibration running
    s.calActive = true ∧ s.calPhase = .seeking ∧ s.calAxis = .throttle ∧
    Config.params.calStepBudget.toNat ≤ ({ s with calCount := 0xFFFFFFFF } : State).calCount.toNat ∧
    { s with calAxis := .brake }.calAxis = .brake ∧
    (0 < Config.params.calStepBudget.toNat → s.calCount.toNat < Config.params.calStepBudget.toNat) ∧
    Config.params.calStepPeriodUs.toNat ≤ 4294967296 ∧
    (0 < Config.params.calStepPeriodUs.toNat → (0 + 2 ^ 64 - s.calLast.toNat) % 2 ^ 64 < Config.params.calStepPeriodUs.toNat) := by
  have h₁ := Config.params.calStepBudget.isLt
  have h₂ := Config.params.calStepPeriodUs.isLt
  refine ⟨rfl, rfl, rfl, ?_, rfl, fun h => h, by omega, fun h => h⟩
  show _ ≤ (0xFFFFFFFF#32).toNat
  have e : (0xFFFFFFFF#32).toNat = 4294967295 := rfl
  omega
/-- Backing off: the pause over at TIME 2^32; the steps made, on each axis; and, where the parameters admit them at all, the
pause running, steps left, a step not due. -/
theorem witness_CalibrationBacksOff :
    let s : State := { startCalibration running with calPhase := .backingOff, time := 4294967296 }
    s.calActive = true ∧ s.calPhase = .backingOff ∧
    Config.params.calDebounceUs.toNat ≤ (s.time.toNat + 2 ^ 64 - s.calTtrig.toNat) % 2 ^ 64 ∧
    Config.params.calBackoffSteps.toNat ≤ ({ s with calCount := 0xFFFFFFFF } : State).calCount.toNat ∧
    Config.params.calStepPeriodUs.toNat ≤ (s.time.toNat + 2 ^ 64 - s.calLast.toNat) % 2 ^ 64 ∧
    (0 < Config.params.calBackoffSteps.toNat → s.calCount.toNat < Config.params.calBackoffSteps.toNat) ∧
    (0 < Config.params.calDebounceUs.toNat →
      (s.time.toNat + 2 ^ 64 - { s with calTtrig := s.time }.calTtrig.toNat) % 2 ^ 64 < Config.params.calDebounceUs.toNat) := by
  have h₁ := Config.params.calBackoffSteps.isLt
  have h₂ := Config.params.calStepPeriodUs.isLt
  have h₃ := Config.params.calDebounceUs.isLt
  have e : (0xFFFFFFFF#32).toNat = 4294967295 := rfl
  have e₂ : ((4294967296#64).toNat + 2 ^ 64 - (0#64).toNat) % 2 ^ 64 = 4294967296 := by norm_num
  have e₃ : ((4294967296#64).toNat + 2 ^ 64 - (4294967296#64).toNat) % 2 ^ 64 = 0 := by norm_num
  refine ⟨rfl, rfl, ?_, ?_, ?_, fun h => h, ?_⟩
  · exact Nat.le_trans (by omega) (Nat.le_of_eq e₂.symm)
  · exact Nat.le_trans (by omega) (Nat.le_of_eq e.symm)
  · exact Nat.le_trans (by omega) (Nat.le_of_eq e₂.symm)
  · exact fun h => lt_of_eq_of_lt e₃ h
/-- With the test-only parameters every parameter-dependent clause of the two statements has its state. -/
theorem witness_calibration_test_params :
    let s := startCalibration running
    s.calCount.toNat < params.calStepBudget.toNat ∧ elapsed 99 s.calLast < params.calStepPeriodUs.toNat ∧
    params.calStepPeriodUs.toNat ≤ elapsed 100 s.calLast ∧ s.calCount.toNat < params.calBackoffSteps.toNat ∧
    elapsed 999 s.calTtrig < params.calDebounceUs.toNat ∧ params.calDebounceUs.toNat ≤ elapsed 1000 s.calTtrig := by decide
theorem witness_CalibrationInactive : running.calActive = false := by decide
/-- A tick after which the throttle is still held: its switch has just been seen triggered. -/
theorem witness_HeldAxisIsSkipped :
    (startCalibration running).pulseBusy = false ∧
    (tick Config.params false true (startCalibration running)).held .throttle = true := by
  refine ⟨by decide, ?_⟩
  rw [tick_held _ _ _ rfl]
  rfl
theorem witness_TickHeldDuringPulse : pulsing.time.toNat < (pulsing.axis .throttle).pend.toNat := by decide
theorem witness_StoppedTickHasNoEffect : State.reset.pulseBusy = false ∧ State.reset.run = false := by decide
theorem witness_running_tick : running.pulseBusy = false ∧ running.run = true ∧ running.calActive = false := by decide
/-- A frame with channel 6 at 799, and one at 800, in the buffer. -/
theorem witness_signal_ticks :
    let lost : Vector (BitVec 16) 10 := #v[0, 0, 0, 0, 0, 0, 799, 0, 0, 0]
    let good : Vector (BitVec 16) 10 := #v[0, 0, 0, 0, 0, 0, 800, 0, 0, 0]
    (running.pulseBusy = false ∧ running.run = true ∧ running.calActive = false ∧ running.connLost = false ∧
      enc lost ++ [1] = frameBytes lost zeroPad (checksum (frameBody lost zeroPad)) ++ [1] ∧ lost[6].toNat < 800) ∧
    (enc good = frameBytes good zeroPad (checksum (frameBody good zeroPad)) ++ [] ∧ 800 ≤ good[6].toNat) := by decide
theorem witness_SilenceKeepsSignalState :
    running.pulseBusy = false ∧ running.run = true ∧ running.calActive = false ∧
    ∀ i, i + 32 ≤ running.rxBuf.length → frameValid (running.rxBuf.drop i) = false :=
  ⟨by decide, rfl, rfl, fun i h => absurd h (by show ¬ i + 32 ≤ 0; omega)⟩
/-- A moving axis in an invariant state, and a step from it. -/
theorem witness_StepKeepsInvariant :
    let s : State :=
      { running with
        axes := running.axes.upd .brake fun x => { x with vel := 1, inf := false, ivl := 0xFFFFFFFFFFFF }
        inputs := [.advance 1] }
    s.Inv Config.params ∧ ∃ t, step s = .next t := by
  have hr : ∀ P : Params, AxisState.reset.Ok P :=
    fun P => ⟨by decide, fun _ => rfl, fun h => absurd h (by decide), by decide⟩
  have hb := Config.params.minStepInterval_bounds
  refine ⟨⟨?_, Nat.zero_le _, Nat.zero_le _, Nat.zero_le _, ⟨by decide, by decide, by decide⟩⟩, _, rfl⟩
  intro a
  cases a
  · exact hr _
  · exact hr _
  · refine ⟨by decide, by decide, fun _ => ?_, by decide⟩
    show _ ≤ (0xFFFFFFFFFFFF#48).toNat
    have e : (0xFFFFFFFFFFFF#48).toNat = 281474976710655 := rfl
    omega
  · exact hr _
/-- A COMMIT that changes the active settings. -/
theorem witness_OnlyCommitChangesActiveSettings :
    let s : State := { State.reset with shadow := { Settings.reset with fwd := 1 }, inputs := [.bus 0x10100000001 0] }
    (after s).map (fun t => decide (t.active ≠ s.active)) = some true := by decide
theorem witness_OnlyAdvanceMovesTime :
    (after { State.reset with inputs := [.advance 1] }).map (fun t => decide (t.time ≠ State.reset.time)) = some true := by decide
/-- A tick that delivers a frame changes the channels and, its signal being lost, `CONN_LOST`. -/
theorem witness_ChannelsChangeOnlyWithAFrame :
    (tick Config.params true true { running with rxBuf := frameC }).ch ≠ running.ch ∧
    (tick Config.params true true { running with rxBuf := frameC }).connLost ≠ running.connLost := by
  rw [tick_frame Config.params true true (s := { running with rxBuf := frameC }) rfl]
  decide
theorem witness_DirectionStableDuringPulse :
    (after { pulsing with inputs := [.bus 0x10100000006 0] }).isSome = true ∧
    pulsing.time.toNat < (pulsing.axis .throttle).pend.toNat := by decide
/-- Each writer at work: START with and without the transport, CLEAR_STICKY, a reserved command. -/
theorem witness_FlagsHaveTheirWriters :
    (after { State.reset with inputs := [.bus 0x10100000005 1] }).map (·.run) = some true ∧
    (after { State.reset with inputs := [.bus 0x10100000005 0] }).map (·.linkFail) = some true ∧
    (after { State.reset with inputs := [.bus 0x10100000007 0] }).map (·.badCmd) = some true ∧
    (after { State.reset with rxOvf := true, linkFail := true, badCmd := true, inputs := [.bus 0x10100000004 0] }).map
      (fun t => (t.rxOvf, t.linkFail, t.badCmd)) = some (false, false, false) := by decide
/-- A tick that delivers a frame with a valid signal pins the steering. -/
theorem witness_FlagsHaveTheirWriters_firstDone :
    (after { running with rxBuf := frameA, inputs := [.tick 1 1] }).map (·.firstDone) = some true := by decide
/-- A byte that finds the buffer full, whatever the depth. -/
theorem witness_FlagsHaveTheirWriters_rxOvf :
    (after { running with rxBuf := List.replicate Config.params.rxbufDepth 0, inputs := [.rxByte 0] }).map (·.rxOvf) =
      some true := by
  have h := rxByte_full (P := Config.params)
    (s := { running with rxBuf := List.replicate Config.params.rxbufDepth 0 }) 0 rfl (by simp)
  exact congrArg (fun t : State => some t.rxOvf) h

end Sys2Proof.Tests
end

section
/-! PROOFS. Which event a step takes, which raw inputs decode to none, and what a step answers where there is no event and
where the input is out of range. -/

namespace Sys2Proof

/-! ### What the decoder refuses -/

/-- A level above 1 is refused (30_encoding.md R103). -/
theorem decodeLevel_of_two_le {n : Nat} (h : 2 ≤ n) : decodeLevel n = .error .levelOutOfRange := by
  obtain ⟨k, rfl⟩ := Nat.exists_eq_add_of_le' h
  rfl

/-- A level decodes to a bit or is refused as out of range; the decoder has no third answer. -/
theorem decodeLevel_cases (n : Nat) :
    (∃ b, decodeLevel n = .ok b) ∨ decodeLevel n = .error .levelOutOfRange := by
  match n with
  | 0 => exact .inl ⟨false, rfl⟩
  | 1 => exact .inl ⟨true, rfl⟩
  | _ + 2 => exact .inr rfl

theorem decode_rxByte_of_le {b : Nat} (h : 256 ≤ b) : decode (.rxByte b) = .error .byteOutOfRange :=
  if_neg (Nat.not_lt.mpr h)

theorem decode_advance_of_out_of_range {n : Nat} (h : n = 0 ∨ 2 ^ 64 ≤ n) :
    decode (.advance n) = .error .advanceOutOfRange :=
  if_neg (by omega)

/-- One bad level is enough, whatever the other is. -/
theorem decode_tick_of_two_le {sw1 sw2 : Nat} (h : 2 ≤ sw1 ∨ 2 ≤ sw2) :
    decode (.tick sw1 sw2) = .error .levelOutOfRange := by
  rcases h with h | h
  · simp [decode, decodeLevel_of_two_le h]
  · rcases decodeLevel_cases sw1 with ⟨b, hb⟩ | hb <;> simp [decode, decodeLevel_of_two_le h, hb]

theorem decode_bus_of_two_le (t : BusWord) {link : Nat} (h : 2 ≤ link) :
    decode (.bus t link) = .error .levelOutOfRange := by
  simp [decode, decodeLevel_of_two_le h]

/-- The header test passes exactly on the byte lists that begin with the header: a byte that is missing counts as 0, which
is no header byte (30_encoding.md R94). -/
theorem headerMatch_iff (w : List Byte) : headerMatch w = true ↔ ∃ tail, w = 0x20 :: 0x40 :: tail := by
  match w with
  | [] => simp [headerMatch, byteAt, Config.hdr0]
  | [b] => simp [headerMatch, byteAt, Config.hdr1]
  | b :: c :: tail => simp [headerMatch, byteAt, Config.hdr0, Config.hdr1]

theorem decode_wire_of_not_window {bytes : List Byte}
    (h : ¬ (bytes.length = 32 ∧ ∃ tail, bytes = 0x20 :: 0x40 :: tail)) :
    decode (.wire bytes) = .error .notAFrameWindow := by
  rw [← headerMatch_iff] at h
  exact if_neg h

end Sys2Proof

namespace Sys2Proof.Machine

/-! ### What a step takes where no held TICK is admissible -/

/-- The premise of the lemmas below leaves out the admission of a held TICK. -/
theorem not_admissible {s : State} (h : s.pulseBusy = true ∨ s.heldTicks = 0) :
    ¬ (s.pulseBusy = false ∧ ∃ n, s.heldTicks = n + 1) := by
  rintro ⟨hb, n, hn⟩
  rcases h with h | h
  · rw [hb] at h
    cases h
  · omega

theorem fetch_of_inputs_nil {s : State} (h : s.pulseBusy = true ∨ s.heldTicks = 0) (hi : s.inputs = []) :
    fetch s = none := by
  rcases fetch_cases s with ⟨hb, n, hn, -⟩ | ⟨-, -, hf⟩ | ⟨-, e, rest, he, -⟩
  · exact absurd ⟨hb, n, hn⟩ (not_admissible h)
  · exact hf
  · rw [hi] at he
    cases he

theorem fetch_of_inputs_cons {s : State} {e : Input} {rest : List Input} (h : s.pulseBusy = true ∨ s.heldTicks = 0)
    (hi : s.inputs = e :: rest) : fetch s = some (decode e, { s with inputs := rest }) := by
  rcases fetch_cases s with ⟨hb, n, hn, -⟩ | ⟨-, hnil, -⟩ | ⟨-, e', rest', he, hf⟩
  · exact absurd ⟨hb, n, hn⟩ (not_admissible h)
  · rw [hi] at hnil
    cases hnil
  · rw [hi] at he
    cases he
    exact hf

/-- A step runs what its input decodes to, on the state less that input. -/
theorem step_of_decode_ok {s : State} {e : Input} {rest : List Input} {i : Instr}
    (h : s.pulseBusy = true ∨ s.heldTicks = 0) (hi : s.inputs = e :: rest) (hd : decode e = .ok i) :
    step s = exec i { s with inputs := rest } := by
  simp only [step, fetch_of_inputs_cons h hi, hd]

/-- An input that is no event is refused under the decoder's reason (00_scope.md R20; log 14). -/
theorem step_of_decode_error {s : State} {e : Input} {rest : List Input} {why : DecodeError}
    (h : s.pulseBusy = true ∨ s.heldTicks = 0) (hi : s.inputs = e :: rest) (hd : decode e = .error why) :
    step s = .refused (.badInput why) := by
  simp only [step, fetch_of_inputs_cons h hi, hd]

theorem exec_advance_zero (s : State) : exec (.advance 0) s = .refused .advanceZero := rfl

end Sys2Proof.Machine

namespace Sys2Proof.Proofs

open Sys2Proof Sys2Proof.Machine

/-- Settles O9: each clause is the decoder's answer on that input, and a step refuses what does not decode. -/
theorem outOfRangeInputsRefused : Obligations.OutOfRangeInputsRefused := by
  intro s rest h
  have refuses {e : Input} {why : DecodeError} (hd : decode e = .error why) :
      step { s with inputs := e :: rest } = .refused (.badInput why) :=
    step_of_decode_error (s := { s with inputs := e :: rest }) h rfl hd
  exact ⟨fun _ hb => refuses (decode_rxByte_of_le hb),
    fun _ hn => refuses (decode_advance_of_out_of_range hn),
    fun _ _ hsw => refuses (decode_tick_of_two_le hsw),
    fun t _ hl => refuses (decode_bus_of_two_le t hl),
    fun _ hw => refuses (decode_wire_of_not_window hw),
    exec_advance_zero s⟩

/-- Settles O10: with no admissible TICK and no input there is no event to fetch (log 2). -/
theorem idleWithoutEvents : Obligations.IdleWithoutEvents := by
  intro s h hi
  simp only [step, fetch_of_inputs_nil h hi]

end Sys2Proof.Proofs
end

section
/-! PROOFS. The flag words STATUS, CAL_STATUS and AXa_OUT, field by field (spec/10_state.md R46, R53, R54). -/

namespace Sys2Proof.Machine

/-! ### Two fields of a word side by side -/

/-- A field placed above another one is added to it: no bit of the two coincides. -/
theorem toNat_or_shiftLeft {x y : Word} {i m : Nat} (hx : x.toNat < 2 ^ i) (hy : y.toNat < 2 ^ m)
    (hfit : i + m ≤ 32) : (x ||| y <<< i).toNat = x.toNat + 2 ^ i * y.toNat := by
  have hlt : y.toNat <<< i < 2 ^ 32 := by
    rw [Nat.shiftLeft_eq]
    calc y.toNat * 2 ^ i < 2 ^ m * 2 ^ i := Nat.mul_lt_mul_of_pos_right hy (Nat.two_pow_pos i)
      _ = 2 ^ (i + m) := by rw [Nat.add_comm, Nat.pow_add]
      _ ≤ 2 ^ 32 := Nat.pow_le_pow_right (by decide) hfit
  rw [BitVec.toNat_or, BitVec.toNat_shiftLeft, Nat.mod_eq_of_lt hlt, Nat.or_comm,
    ← Nat.shiftLeft_add_eq_or_of_lt hx, Nat.shiftLeft_eq, Nat.mul_comm, Nat.add_comm]

theorem CalRes.code_lt (r : CalRes) : r.code.toNat < 2 ^ 2 := by cases r <;> decide
theorem CalPhase.code_lt (p : CalPhase) : p.code.toNat < 2 ^ 2 := by cases p <;> decide
theorem CalAxis.code_lt (c : CalAxis) : c.code.toNat < 2 ^ 1 := by cases c <;> decide

/-- CAL_STATUS as a number: its four fields side by side (10_state.md R54). -/
theorem calStatusWord_toNat (s : State) :
    (calStatusWord s).toNat =
      s.calResThrottle.code.toNat + 2 ^ 2 * s.calResBrake.code.toNat + 2 ^ 4 * s.calPhase.code.toNat +
        2 ^ 6 * s.calAxis.code.toNat := by
  have ht := s.calResThrottle.code_lt
  have hb := s.calResBrake.code_lt
  have hp := s.calPhase.code_lt
  have hc := s.calAxis.code_lt
  have results := toNat_or_shiftLeft ht hb (by decide)
  have phase := toNat_or_shiftLeft (x := s.calResThrottle.code ||| s.calResBrake.code <<< 2) (i := 4)
    (by rw [results]; omega) hp (by decide)
  rw [calStatusWord, toNat_or_shiftLeft (by rw [phase, results]; omega) hc (by decide), phase, results]

/-! ### The addresses the flag words stand at -/

theorem regValue_status (s : State) : regValue s 0x02 = statusWord s := rfl
theorem regValue_calStatus (s : State) : regValue s 0x07 = calStatusWord s := rfl

theorem regValue_out (s : State) (a : Axis) : regValue s (BitVec.ofNat 8 (0x4A + 16 * axisIndex a)) = outWord s a := by
  cases a <;> rfl

/-! ### Derived flags -/

/-- The strobe level of an axis (10_state.md R46). -/
theorem AxisState.stepLevel_iff (now : Time) (x : AxisState) :
    x.stepLevel now = true ↔ x.pstart.toNat ≤ now.toNat ∧ now.toNat < x.pend.toNat := by
  simp [AxisState.stepLevel, AxisState.inFlight]

/-- Only the throttle and the brake are ever held, each while the sequencer names it (10_state.md R50). -/
theorem State.held_iff (s : State) (a : Axis) :
    s.held a = true ↔ s.calActive = true ∧
      (a = .throttle ∧ s.calAxis = .throttle ∨ a = .brake ∧ s.calAxis = .brake) := by
  cases hc : s.calAxis <;> cases a <;> simp [State.held, CalAxis.axis, hc]

end Sys2Proof.Machine

namespace Sys2Proof.Proofs

open Sys2Proof Sys2Proof.Machine

/-- Settles O14: STATUS and AXa_OUT bit by bit, CAL_STATUS as a sum of its fields. -/
theorem flagWordsRead : Obligations.FlagWordsRead := by
  intro s
  simp only [regValue_status, regValue_calStatus, regValue_out, statusWord_getLsbD, outWord_getLsbD]
  refine ⟨by simp, by simp, by simp, by simp, ?busy, by simp, by simp, by simp, ?zero, ?cal, fun a => ?out⟩
  case busy => simpa using s.pulseBusy_iff
  case zero =>
    intro k hk
    have hne : k ≠ 0 ∧ k ≠ 1 ∧ k ≠ 2 ∧ k ≠ 3 ∧ k ≠ 4 ∧ k ≠ 8 ∧ k ≠ 9 ∧ k ≠ 10 := by omega
    simp [hne]
  case cal =>
    rw [calStatusWord_toNat]
    congr 1
    · congr 1
      · congr 1
        · cases s.calResThrottle <;> rfl
        · cases s.calResBrake <;> rfl
      · cases s.calPhase <;> rfl
    · cases s.calAxis <;> rfl
  case out =>
    refine ⟨by simp, by simpa using AxisState.stepLevel_iff s.time (s.axis a), by simpa using s.held_iff a, ?_⟩
    intro k hk
    have hne : k ≠ 0 ∧ k ≠ 1 ∧ k ≠ 2 := by omega
    simp [hne]

end Sys2Proof.Proofs
end

section
/-! PROOFS. The invariant of Sys2Proof/Safety.lean: what keeps it, stage by stage and command by command, and from these
that every instruction keeps it. -/

namespace Sys2Proof.Machine

/-! ### One axis -/

section
variable {P : Params} {x : AxisState}

/-- The invariant of an axis reads its velocity and its interval only. -/
theorem AxisState.Ok.of_same_motion {y : AxisState} (h : x.Ok P) (hvel : y.vel = x.vel) (hinf : y.inf = x.inf)
    (hivl : y.ivl = x.ivl) : y.Ok P := by
  obtain ⟨restIff, restInterval, intervalFloor, velocityCap⟩ := h
  exact ⟨by rw [hvel, hinf, restIff], by rw [hinf, hivl]; exact restInterval,
    by rw [hinf, hivl]; exact intervalFloor, by rw [hvel]; exact velocityCap⟩

/-- An axis at rest meets the invariant, whatever its interval was (10_state.md R42). -/
theorem AxisState.ok_of_rest (hvel : x.vel = 0) (hinf : x.inf = true) (hivl : x.ivl = 0) : x.Ok P := by
  refine ⟨by simp [hvel, hinf], fun _ => hivl, fun h => ?_, by simp [hvel]⟩
  rw [hinf] at h
  cases h

theorem AxisState.Ok.setTarget (h : x.Ok P) (v : Int) : (x.setTarget v).Ok P := h.of_same_motion rfl rfl rfl

theorem AxisState.Ok.restartVelocityTime (h : x.Ok P) (now : Time) : (x.restartVelocityTime now).Ok P :=
  h.of_same_motion rfl rfl rfl

theorem AxisState.Ok.emitPulse (h : x.Ok P) (Q : Params) (now : Time) (d : Bool) : (x.emitPulse Q now d).Ok P :=
  h.of_same_motion rfl rfl rfl

theorem homeAxis_ok : (homeAxis x).Ok P := AxisState.ok_of_rest rfl rfl rfl

theorem neutralAxis_ok : (neutralAxis x).Ok P := AxisState.ok_of_rest rfl rfl rfl

/-- PROFILE keeps the cap: both the old velocity and the active speed are under it (10_state.md R41). -/
theorem AxisState.Ok.profileAxis (h : x.Ok P) (c : AxisSettings) (now : Time) : (profileAxis P c now x).Ok P := by
  apply profileAxis_ok
  rw [profileAxis_vel]
  exact (rampedVelocity_le c now x).trans (max_le h.velocityCap (speed_lt c))

/-- STEP halts the axis or leaves its velocity and interval. -/
theorem AxisState.Ok.stepAxis (h : x.Ok P) (c : Settings) (a : Axis) (now : Time) : (stepAxis P c a now x).Ok P := by
  rcases stepAxis_cases P c a now x with ⟨-, hs⟩ | ⟨-, -, hs⟩ | ⟨-, -, hs⟩ <;> rw [hs]
  · exact AxisState.ok_of_rest rfl rfl rfl
  · exact h.of_same_motion rfl rfl rfl
  · exact h.of_same_motion rfl rfl rfl

end

/-! ### The calibration sequencer -/

section
variable {P : Params} {s : State}

/-- The clause of the sequencer reads its activity, its phase and its count only. -/
theorem State.CalOk.of_same_phase {t : State} (h : s.CalOk P) (hact : t.calActive = s.calActive)
    (hphase : t.calPhase = s.calPhase) (hcount : t.calCount = s.calCount) : t.CalOk P := by
  obtain ⟨idleIff, seekCount, backOffCount⟩ := h
  exact ⟨by rw [hact, hphase]; exact idleIff, by rw [hphase, hcount]; exact seekCount,
    by rw [hphase, hcount]; exact backOffCount⟩

/-- An active sequencer that has just entered a phase has made none of its steps. -/
theorem State.calOk_of_entered (hact : s.calActive = true) (hphase : s.calPhase ≠ .idle) (hcount : s.calCount = 0) :
    s.CalOk P :=
  ⟨by simp [hact, hphase], fun _ => by simp [hcount], fun _ => by simp [hcount]⟩

theorem State.calOk_of_idle (hact : s.calActive = false) (hphase : s.calPhase = .idle) : s.CalOk P :=
  ⟨by simp [hact, hphase], by simp [hphase], by simp [hphase]⟩

/-- A finished axis passes to the next one, which begins to seek, or ends the sequence (45_calibration.md R210). -/
theorem calFinish_calOk (hact : s.calActive = true) (r : CalRes) : (calFinish r s).CalOk P := by
  cases hc : s.calAxis
  · rw [calFinish_throttle r hc]
    exact State.calOk_of_entered hact (by simp) rfl
  · rw [calFinish_brake r hc]
    exact State.calOk_of_idle rfl rfl

/-- A step below the bound adds one without wrapping. -/
theorem count_succ_le {count bound : BitVec 32} (h : count.toNat < bound.toNat) : (count + 1).toNat ≤ bound.toNat := by
  bv_omega

/-- A calibration step is counted against the bound of the phase that makes it (45_calibration.md R206, R208). -/
theorem calPulse_calOk (h : s.CalOk P) (d : Bool)
    (hseek : s.calPhase = .seeking → s.calCount.toNat < P.calStepBudget.toNat)
    (hback : s.calPhase = .backingOff → s.calCount.toNat < P.calBackoffSteps.toNat) : (calPulse P d s).CalOk P :=
  ⟨h.idleIff, fun hp => count_succ_le (hseek hp), fun hp => count_succ_le (hback hp)⟩

theorem State.CalOk.calStep (h : s.CalOk P) (sw1 sw2 : Bool) : (calStep P sw1 sw2 s).CalOk P := by
  rcases calStep_cases P sw1 sw2 s with hs | ⟨hact, hphase, -, hs⟩ | ⟨hact, hphase, -, -, hs⟩ |
    ⟨hact, hphase, -, hcount, -, hs⟩ | ⟨hact, hphase, -, -, hs⟩ | ⟨hact, hphase, -, hcount, -, hs⟩ <;> rw [hs]
  · exact h
  · exact State.calOk_of_entered hact (by simp) rfl
  · exact calFinish_calOk hact .fail
  · exact calPulse_calOk h _ (fun _ => hcount) (by simp [hphase])
  · exact calFinish_calOk (s := s.updAxis _ homeAxis) hact .ok
  · exact calPulse_calOk h _ (by simp [hphase]) (fun _ => hcount)

end

/-! ### The stages of a tick -/

section
variable {P : Params} {s : State}

/-- The invariant reads the axes, the settings, the buffer's length and the sequencer only. -/
theorem State.Inv.of_same {t : State} (h : s.Inv P) (haxes : ∀ a, (t.axis a).Ok P) (hshadow : t.shadow = s.shadow)
    (hactive : t.active = s.active) (hbuf : t.rxBuf.length ≤ P.rxbufDepth) (hcal : t.CalOk P) : t.Inv P :=
  ⟨haxes, hshadow ▸ h.shadowOk, hactive ▸ h.activeOk, hbuf, hcal⟩

/-- A change of one axis alone. -/
theorem State.Inv.updAxis (h : s.Inv P) (a : Axis) {f : AxisState → AxisState} (hf : (f (s.axis a)).Ok P) :
    (s.updAxis a f).Inv P := by
  refine h.of_same (fun b => ?_) rfl rfl h.bufferBound (h.calOk.of_same_phase rfl rfl rfl)
  rw [State.updAxis_axis]
  split
  · next hb => exact hb ▸ hf
  · exact h.axisOk b

theorem parse_rxBuf_length_le (s : State) : (parse s).1.rxBuf.length ≤ s.rxBuf.length := by
  rcases parse_cases s with ⟨-, hp⟩ | ⟨-, hp⟩ <;> rw [hp] <;> simp

theorem State.Inv.parse (h : s.Inv P) : (parse s).1.Inv P := by
  have hbuf := (parse_rxBuf_length_le s).trans h.bufferBound
  rw [parse_frame]
  exact h.of_same h.axisOk rfl rfl hbuf (h.calOk.of_same_phase rfl rfl rfl)

theorem State.Inv.enterSafeMode (h : s.Inv P) : (enterSafeMode s).Inv P := by
  refine h.of_same (fun a => ?_) rfl rfl h.bufferBound (h.calOk.of_same_phase rfl rfl rfl)
  rw [enterSafeMode_axis]
  exact (h.axisOk a).of_same_motion rfl rfl rfl

theorem State.Inv.failsafe (h : s.Inv P) (frameOk : Bool) : (failsafe frameOk s).1.Inv P := by
  have setFlag : ∀ b, State.Inv P { s with connLost := b } := fun _ =>
    h.of_same h.axisOk rfl rfl h.bufferBound (h.calOk.of_same_phase rfl rfl rfl)
  rcases failsafe_cases frameOk s with ⟨-, hf⟩ | ⟨-, -, hf⟩ | ⟨-, -, -, hf⟩ | ⟨-, -, -, hf⟩ <;> rw [hf]
  · exact h
  · exact setFlag false
  · exact h
  · exact (setFlag true).enterSafeMode

theorem State.Inv.mix (h : s.Inv P) : (mix s).Inv P := by
  rw [mix_frame]
  refine h.of_same (fun a => ?_) rfl rfl h.bufferBound (h.calOk.of_same_phase rfl rfl rfl)
  show ((Machine.mix s).axis a).Ok P
  rw [mix_axis]
  exact (h.axisOk a).of_same_motion rfl rfl rfl

theorem State.Inv.receiveStages (h : s.Inv P) : (receiveStages s).Inv P := by
  have hfailsafe := h.parse.failsafe (Machine.parse s).2
  unfold Machine.receiveStages
  simp only
  split
  · exact hfailsafe.mix
  · exact hfailsafe

/-- CAL_STEP leaves an axis, releases it, homes it or pulses it. -/
theorem State.Inv.calStep (h : s.Inv P) (sw1 sw2 : Bool) : (calStep P sw1 sw2 s).Inv P := by
  have haxes : ∀ a, ((Machine.calStep P sw1 sw2 s).axis a).Ok P := by
    intro a
    rcases calStep_axis P sw1 sw2 s a with ha | ⟨-, -, ha | ha⟩ | ⟨-, -, d, ha⟩ <;> rw [ha]
    · exact h.axisOk a
    · exact (h.axisOk a).restartVelocityTime _
    · exact homeAxis_ok.restartVelocityTime _
    · exact (h.axisOk a).emitPulse _ _ _
  have hcal := h.calOk.calStep sw1 sw2
  rw [calStep_frame] at haxes hcal ⊢
  exact h.of_same haxes rfl rfl h.bufferBound hcal

theorem State.Inv.profile (h : s.Inv P) (a : Axis) : (profile P a s).Inv P :=
  h.updAxis a ((h.axisOk a).profileAxis _ _)

theorem State.Inv.stepStage (h : s.Inv P) (a : Axis) : (stepStage P a s).Inv P :=
  h.updAxis a ((h.axisOk a).stepAxis _ _ _)

theorem State.Inv.axisStages (h : s.Inv P) (a : Axis) : (axisStages P a s).Inv P := by
  unfold Machine.axisStages
  split
  · exact h
  · exact (h.profile a).stepStage a

theorem State.Inv.tick (h : s.Inv P) (sw1 sw2 : Bool) : (tick P sw1 sw2 s).Inv P := by
  unfold Machine.tick
  split
  · exact ((((h.receiveStages.calStep sw1 sw2).axisStages .steering).axisStages .throttle).axisStages .brake).axisStages
      .transmission
  · exact h

end

/-! ### Received bytes -/

section
variable {P : Params} {s : State}

/-- A byte is pushed only where there is room for it (40_framer.md R122). -/
theorem State.Inv.rxByte (h : s.Inv P) (b : Byte) : (rxByte P b s).Inv P := by
  rcases rxByte_cases P b s with ⟨-, hr⟩ | ⟨-, hroom, hr⟩ | ⟨-, -, hr⟩ <;> rw [hr]
  · exact h
  · exact h.of_same h.axisOk rfl rfl (by simpa using hroom) (h.calOk.of_same_phase rfl rfl rfl)
  · exact h.of_same h.axisOk rfl rfl h.bufferBound (h.calOk.of_same_phase rfl rfl rfl)

theorem State.Inv.rxBytes (bs : List Byte) (h : s.Inv P) : (rxBytes P bs s).Inv P := by
  induction bs generalizing s with
  | nil => exact h
  | cons b bs ih => exact ih (h.rxByte b)

end

/-! ### Stores and commands -/

section
variable {P : Params} {s : State}

/-- A stored steering speed is under its ceiling (47_host_interface.md R253). -/
theorem steerSpeedField_le (P : Params) (d : Word) : (steerSpeedField P d).toNat ≤ P.steerSpeedMax.toNat := by
  unfold steerSpeedField
  split
  · assumption
  · exact le_rfl

/-- Only a write of the steering speed writes the field the ceiling is for. -/
theorem storeReg_shadow_ok (h : s.shadow.Ok P) (r : Reg) (d : Word) : (storeReg P r d s).shadow.Ok P := by
  cases r with
  | shSpeed a =>
    cases a with
    | steering => exact steerSpeedField_le P d
    | throttle | brake | transmission => exact h
  | shAccel a | shLimit a => cases a <;> exact h
  | _ => exact h

theorem State.Inv.storeReg (h : s.Inv P) (r : Reg) (d : Word) : (storeReg P r d s).Inv P := by
  have hshadow := storeReg_shadow_ok h.shadowOk r d
  rw [storeReg_frame]
  exact ⟨h.axisOk, hshadow, h.activeOk, h.bufferBound, h.calOk.of_same_phase rfl rfl rfl⟩

theorem axes_map_ok {f : AxisState → AxisState} (hf : ∀ a, (f (s.axis a)).Ok P) (a : Axis) :
    ((s.axes.map f).get a).Ok P := by
  rw [PerAxis.get_map]
  exact hf a

theorem State.Inv.commit (h : s.Inv P) : (commit s).Inv P :=
  ⟨axes_map_ok fun a => (h.axisOk a).restartVelocityTime _, h.shadowOk, h.shadowOk, h.bufferBound,
    h.calOk.of_same_phase rfl rfl rfl⟩

theorem State.Inv.startCalibration (h : s.Inv P) : (startCalibration s).Inv P := by
  unfold Machine.startCalibration
  split
  · exact h
  · exact h.of_same h.axisOk rfl rfl h.bufferBound (State.calOk_of_entered rfl (by simp) rfl)

theorem State.Inv.clearSticky (h : s.Inv P) : (clearSticky s).Inv P :=
  h.of_same h.axisOk rfl rfl h.bufferBound (h.calOk.of_same_phase rfl rfl rfl)

theorem State.Inv.start (h : s.Inv P) (linkOk : Bool) : (start linkOk s).Inv P := by
  have hcal {t : State} : t.calActive = s.calActive → t.calPhase = s.calPhase → t.calCount = s.calCount → t.CalOk P :=
    h.calOk.of_same_phase
  unfold Machine.start
  split
  · exact h
  · split
    · exact h.of_same (axes_map_ok fun a => (h.axisOk a).restartVelocityTime _) rfl rfl h.bufferBound (hcal rfl rfl rfl)
    · exact h.of_same h.axisOk rfl rfl h.bufferBound (hcal rfl rfl rfl)

/-- SHUTDOWN aborts a running calibration and leaves an inactive one as it is (47_host_interface.md R261). -/
theorem State.Inv.abortCalibration (h : s.Inv P) : (abortCalibration s).Inv P := by
  unfold Machine.abortCalibration
  split
  · exact h.of_same h.axisOk rfl rfl h.bufferBound (State.calOk_of_idle rfl rfl)
  · exact h

theorem State.Inv.shutdown (h : s.Inv P) : (shutdown s).Inv P :=
  (h.of_same (t := { s with run := false, axes := s.axes.map neutralAxis })
    (axes_map_ok fun _ => neutralAxis_ok) rfl rfl h.bufferBound (h.calOk.of_same_phase rfl rfl rfl)).abortCalibration

theorem State.Inv.reservedCommand (h : s.Inv P) : (reservedCommand s).Inv P :=
  h.of_same h.axisOk rfl rfl h.bufferBound (h.calOk.of_same_phase rfl rfl rfl)

theorem State.Inv.command (h : s.Inv P) (opc : BitVec 8) (linkOk : Bool) : (command opc linkOk s).Inv P := by
  unfold Machine.command
  split
  · exact h
  · exact h.commit
  · exact h.enterSafeMode
  · exact h.startCalibration
  · exact h.clearSticky
  · exact h.start linkOk
  · exact h.shutdown
  · exact h.reservedCommand

theorem State.Inv.regWrite (h : s.Inv P) (addr : Addr) (d : Word) (linkOk : Bool) :
    (regWrite P addr d linkOk s).Inv P := by
  unfold Machine.regWrite
  split
  · exact h.command _ _
  · exact h.storeReg _ _

/-! ### Every instruction -/

/-- The invariant reads none of the fields that the model adds to the block's, nor TIME, nor the held TICKs. -/
theorem State.Inv.of_same_block (h : s.Inv P) (time : Time) (heldTicks switchSamples : Nat) (inputs : List Input)
    (result : Word) :
    State.Inv P { s with
      time := time, heldTicks := heldTicks, switchSamples := switchSamples, inputs := inputs, result := result } :=
  h.of_same h.axisOk rfl rfl h.bufferBound (h.calOk.of_same_phase rfl rfl rfl)

/-- The state after RESET meets the invariant, whatever parameters it has (70_reset_and_hazards.md R301). -/
theorem State.reset_inv (P : Params) : State.reset.Inv P := by
  refine ⟨fun a => ?_, Nat.zero_le _, Nat.zero_le _, Nat.zero_le _, State.calOk_of_idle rfl rfl⟩
  cases a <;> exact AxisState.ok_of_rest rfl rfl rfl

/-- Every instruction that has a next state keeps the invariant, the internal stages run alone among them. -/
theorem exec_keeps_inv {i : Instr} {s t : State} (h : s.Inv Config.params) (he : exec i s = .next t) :
    t.Inv Config.params := by
  cases i with
  | regRead addr => cases he; exact h.of_same_block _ _ _ _ _
  | regWrite addr d linkOk => cases he; exact h.regWrite addr d linkOk
  | nop => cases he; exact h
  | commit => cases he; exact h.commit
  | enterSafeModeCmd => cases he; exact h.enterSafeMode
  | startCalibration => cases he; exact h.startCalibration
  | clearSticky => cases he; exact h.clearSticky
  | start linkOk => cases he; exact h.start linkOk
  | shutdown => cases he; exact h.shutdown
  | reservedCmd opc => cases he; exact h.reservedCommand
  | frame ch pad ck => cases he; exact h.rxBytes _
  | rxByte b => cases he; exact h.rxByte b
  | tick sw1 sw2 =>
    simp only [exec, execTick] at he
    split at he <;> cases he
    · exact h.of_same_block _ _ _ _ _
    · exact h.tick sw1 sw2
  | advance n =>
    simp only [exec, execAdvance] at he
    split at he <;> cases he
    exact h.of_same_block _ _ _ _ _
  | reset => cases he; exact (State.reset_inv _).of_same_block _ _ _ _ _
  | parse => cases he; exact h.parse.of_same_block _ _ _ _ _
  | failsafe frameOk => cases he; exact (h.failsafe frameOk).of_same_block _ _ _ _ _
  | mix => cases he; exact h.mix
  | calStep sw1 sw2 => cases he; exact h.calStep sw1 sw2
  | profile a => cases he; exact h.profile a
  | step a => cases he; exact h.stepStage a
  | emitPulse a d => cases he; exact h.updAxis a ((h.axisOk a).emitPulse _ _ _)
  | enterSafeMode => cases he; exact h.enterSafeMode

end

end Sys2Proof.Machine

namespace Sys2Proof.Proofs

open Sys2Proof Sys2Proof.Machine

/-- Settles O53: a step idles, or runs one instruction on the state less the event it took, and every instruction keeps the
invariant. -/
theorem stepKeepsInvariant : Obligations.StepKeepsInvariant := by
  intro s t h hstep
  rcases step_cases hstep with rfl | ⟨i, s', hexec, ⟨n, -, -, -, rfl⟩ | ⟨e, rest, -, -, rfl⟩⟩
  · exact h
  · exact exec_keeps_inv (h.of_same_block _ _ _ _ _) hexec
  · exact exec_keeps_inv (h.of_same_block _ _ _ _ _) hexec

end Sys2Proof.Proofs
end

section
/-! PROOFS. What one event can do to TIME, the flags, the channels, the active settings and the velocities: every event with
a next state is quiet for all of these, or is one of the few that write them. The rules of the whole machine follow. -/

namespace Sys2Proof

/-! ### What an input decodes to -/

/-- A bus transaction decodes to a well-formed instruction of its own port: a write to 0x01 is a command
(30_encoding.md R99, R100). -/
theorem decodeBus_wellFormed (t : BusWord) (linkOk : Bool) :
    (decodeBus t linkOk).wellFormed = true ∧ (decodeBus t linkOk).format = .bus := by
  unfold decodeBus
  split
  · split
    · exact decodeCommand_wellFormed _ _
    · next ha => exact ⟨by simpa [Instr.wellFormed] using ha, rfl⟩
  · exact ⟨rfl, rfl⟩

/-- What decodes is well formed and comes in by its own port, which no internal stage does (30_encoding.md R92, R110). -/
theorem decode_wellFormed {e : Input} {i : Instr} (h : decode e = .ok i) :
    i.wellFormed = true ∧ i.format ≠ .internal := by
  cases e with
  | bus t link =>
    rcases decodeLevel_cases link with ⟨l, hl⟩ | hl
    · simp only [decode, hl, Except.ok.injEq] at h
      obtain ⟨hwf, hbus⟩ := decodeBus_wellFormed t l
      rw [← h, hbus]
      exact ⟨hwf, by decide⟩
    · simp [decode, hl] at h
  | wire bytes =>
    simp only [decode, decodeWire] at h
    split at h <;> cases h
    exact ⟨rfl, by simp [Instr.format]⟩
  | rxByte b =>
    simp only [decode] at h
    split at h <;> cases h
    exact ⟨rfl, by simp [Instr.format]⟩
  | tick sw1 sw2 =>
    rcases decodeLevel_cases sw1 with ⟨a, ha⟩ | ha <;> rcases decodeLevel_cases sw2 with ⟨b, hb⟩ | hb <;>
      simp only [decode, ha, hb] at h <;> cases h
    exact ⟨rfl, by simp [Instr.format]⟩
  | advance n =>
    simp only [decode] at h
    split at h <;> cases h
    next hn =>
      refine ⟨?_, by simp [Instr.format]⟩
      simp only [Instr.wellFormed, bne_iff_ne]
      bv_omega
  | reset =>
    cases h
    exact ⟨rfl, by decide⟩

end Sys2Proof

namespace Sys2Proof.Machine

/-! ### The fields of SHUTDOWN and of a tick -/

/-- SHUTDOWN writes RUN, the axes and the calibration (47_host_interface.md R261). -/
theorem shutdown_frame (s : State) :
    shutdown s =
      { s with
        run := false, axes := s.axes.map neutralAxis, calActive := (shutdown s).calActive
        calPhase := (shutdown s).calPhase, calCount := (shutdown s).calCount
        calResThrottle := (shutdown s).calResThrottle, calResBrake := (shutdown s).calResBrake } := by
  unfold shutdown abortCalibration
  split <;> rfl

section
variable (s : State)

@[simp] theorem shutdown_time : (shutdown s).time = s.time := by rw [shutdown_frame]
@[simp] theorem shutdown_run : (shutdown s).run = false := by rw [shutdown_frame]
@[simp] theorem shutdown_connLost : (shutdown s).connLost = s.connLost := by rw [shutdown_frame]
@[simp] theorem shutdown_firstDone : (shutdown s).firstDone = s.firstDone := by rw [shutdown_frame]
@[simp] theorem shutdown_rxOvf : (shutdown s).rxOvf = s.rxOvf := by rw [shutdown_frame]
@[simp] theorem shutdown_linkFail : (shutdown s).linkFail = s.linkFail := by rw [shutdown_frame]
@[simp] theorem shutdown_badCmd : (shutdown s).badCmd = s.badCmd := by rw [shutdown_frame]
@[simp] theorem shutdown_ch : (shutdown s).ch = s.ch := by rw [shutdown_frame]
@[simp] theorem shutdown_active : (shutdown s).active = s.active := by rw [shutdown_frame]
@[simp] theorem shutdown_axis (a : Axis) : (shutdown s).axis a = neutralAxis (s.axis a) := by
  rw [shutdown_frame]
  exact PerAxis.get_map _ _ _

end

section
variable (P : Params) (sw1 sw2 : Bool) {s : State} (hrun : s.run = true)
include hrun

theorem tick_time : (tick P sw1 sw2 s).time = s.time := by rw [tick_frame P sw1 sw2 hrun]
theorem tick_run : (tick P sw1 sw2 s).run = s.run := by rw [tick_frame P sw1 sw2 hrun]
theorem tick_rxOvf : (tick P sw1 sw2 s).rxOvf = s.rxOvf := by rw [tick_frame P sw1 sw2 hrun]
theorem tick_linkFail : (tick P sw1 sw2 s).linkFail = s.linkFail := by rw [tick_frame P sw1 sw2 hrun]
theorem tick_badCmd : (tick P sw1 sw2 s).badCmd = s.badCmd := by rw [tick_frame P sw1 sw2 hrun]
theorem tick_active : (tick P sw1 sw2 s).active = s.active := by rw [tick_frame P sw1 sw2 hrun]
theorem tick_rxBuf : (tick P sw1 sw2 s).rxBuf = (parse s).1.rxBuf := by rw [tick_frame P sw1 sw2 hrun]
theorem tick_ch : (tick P sw1 sw2 s).ch = (parse s).1.ch := by rw [tick_frame P sw1 sw2 hrun]
theorem tick_frameCnt : (tick P sw1 sw2 s).frameCnt = (parse s).1.frameCnt := by rw [tick_frame P sw1 sw2 hrun]
theorem tick_connLost : (tick P sw1 sw2 s).connLost = (receiveStages s).connLost := by rw [tick_frame P sw1 sw2 hrun]
theorem tick_firstDone : (tick P sw1 sw2 s).firstDone = (receiveStages s).firstDone := by
  rw [tick_frame P sw1 sw2 hrun]

end

/-! ### Velocities in a tick -/

theorem receiveStages_vel (s : State) (a : Axis) : ((receiveStages s).axis a).vel = (s.axis a).vel := by
  rw [receiveStages_axis]

/-- CAL_STEP leaves a velocity or makes it 0. -/
theorem calStep_vel_le (P : Params) (sw1 sw2 : Bool) (s : State) (a : Axis) :
    ((calStep P sw1 sw2 s).axis a).vel.toNat ≤ (s.axis a).vel.toNat := by
  rcases calStep_axis P sw1 sw2 s a with h | ⟨-, -, h | h⟩ | ⟨-, -, d, h⟩ <;> rw [h] <;> simp

/-- STEP leaves a velocity or makes it 0 (44_step.md R184). -/
theorem stepAxis_vel_le (P : Params) (c : Settings) (a : Axis) (now : Time) (x : AxisState) :
    (stepAxis P c a now x).vel.toNat ≤ x.vel.toNat := by
  rcases stepAxis_cases P c a now x with ⟨-, h⟩ | ⟨-, -, h⟩ | ⟨-, -, h⟩ <;> rw [h] <;> simp

/-- In a tick PROFILE alone raises a velocity, and not above the active speed (43_profile.md R166). -/
theorem tick_vel_le (P : Params) (sw1 sw2 : Bool) {s : State} (hrun : s.run = true) (a : Axis) :
    ((tick P sw1 sw2 s).axis a).vel.toNat ≤
      max (s.axis a).vel.toNat ((s.settings a).speed.toNat * Config.urpmPerRpm) := by
  have hpre : ((calStep P sw1 sw2 (receiveStages s)).axis a).vel.toNat ≤ (s.axis a).vel.toNat :=
    (calStep_vel_le P sw1 sw2 _ a).trans (by rw [receiveStages_vel])
  rw [tick_axis P sw1 sw2 hrun]
  split
  · exact hpre.trans (le_max_left _ _)
  · refine (stepAxis_vel_le _ _ _ _ _).trans ?_
    rw [profileAxis_vel]
    exact (rampedVelocity_le _ _ _).trans (max_le_max hpre le_rfl)

/-! ### The signal in a tick -/

/-- The receive stages leave both flags, or a frame was delivered: its channel 6 then decides `CONN_LOST`, and the steering is
pinned only where the signal is valid (41_failsafe.md R141, 42_mixer.md R151). -/
theorem receiveStages_signal (s : State) :
    ((receiveStages s).connLost = s.connLost ∧ (receiveStages s).firstDone = s.firstDone) ∨
    ((parse s).1.frameCnt = s.frameCnt + 1 ∧
      (receiveStages s).connLost = decide ((parse s).1.ch[6].toNat < 800) ∧
      ((receiveStages s).firstDone = s.firstDone ∨
        (receiveStages s).firstDone = true ∧ 800 ≤ (parse s).1.ch[6].toNat)) := by
  have hkept : (parse s).1.connLost = s.connLost ∧ (parse s).1.firstDone = s.firstDone := by
    rw [parse_frame]
    exact ⟨rfl, rfl⟩
  have hcount : (scan s.rxBuf).2 = true → (parse s).1.frameCnt = s.frameCnt + 1 := by
    intro hfound
    rcases parse_cases s with ⟨-, hp⟩ | ⟨hnone, -⟩
    · rw [hp]
    · rw [hfound] at hnone
      cases hnone
  rcases receiveStages_cases s with ⟨-, h⟩ | ⟨hf, hsig, h⟩ | ⟨-, -, -, h⟩ | ⟨hf, hsig, -, h⟩ <;> rw [h]
  · exact .inl hkept
  · refine .inr ⟨hcount hf, ?_, .inr ⟨?_, hsig⟩⟩ <;> rw [mix_frame]
    exact (decide_eq_false (Nat.not_lt.mpr hsig)).symm
  · exact .inl hkept
  · exact .inr ⟨hcount hf, (decide_eq_true hsig).symm, .inl hkept.2⟩

/-! ### Quiet events -/

/-- The fields the rules of the whole machine speak of are as they were. -/
structure Kept (s t : State) : Prop where
  time : t.time = s.time
  run : t.run = s.run
  connLost : t.connLost = s.connLost
  firstDone : t.firstDone = s.firstDone
  rxOvf : t.rxOvf = s.rxOvf
  linkFail : t.linkFail = s.linkFail
  badCmd : t.badCmd = s.badCmd
  ch : t.ch = s.ch
  active : t.active = s.active
  vel : ∀ a, (t.axis a).vel = (s.axis a).vel

theorem Kept.refl (s : State) : Kept s s := ⟨rfl, rfl, rfl, rfl, rfl, rfl, rfl, rfl, rfl, fun _ => rfl⟩

theorem Kept.storeReg (P : Params) (r : Reg) (d : Word) (s : State) : Kept s (storeReg P r d s) := by
  rw [storeReg_frame]
  exact ⟨rfl, rfl, rfl, rfl, rfl, rfl, rfl, rfl, rfl, fun _ => rfl⟩

theorem Kept.enterSafeMode (s : State) : Kept s (enterSafeMode s) :=
  ⟨rfl, rfl, rfl, rfl, rfl, rfl, rfl, rfl, rfl, fun a => by rw [enterSafeMode_axis]⟩

theorem Kept.startCalibration (s : State) : Kept s (startCalibration s) := by
  unfold Machine.startCalibration
  split
  · exact Kept.refl s
  · exact ⟨rfl, rfl, rfl, rfl, rfl, rfl, rfl, rfl, rfl, fun _ => rfl⟩

/-- Received bytes are quiet, but where one of them finds the buffer full (40_framer.md R122). -/
theorem rxBytes_cases (P : Params) (bs : List Byte) (s : State) :
    (∃ buf, rxBytes P bs s = { s with rxBuf := buf }) ∨
    (s.run = true ∧ P.rxbufDepth < s.rxBuf.length + bs.length ∧
      ∃ buf, rxBytes P bs s = { s with rxBuf := buf, rxOvf := true }) := by
  induction bs generalizing s with
  | nil => exact .inl ⟨s.rxBuf, rfl⟩
  | cons b bs ih =>
    have hstep : rxBytes P (b :: bs) s = rxBytes P bs (rxByte P b s) := rfl
    rw [hstep, List.length_cons]
    rcases rxByte_cases P b s with ⟨-, h⟩ | ⟨hrun, -, h⟩ | ⟨hrun, hfull, h⟩ <;> rw [h]
    · rcases ih s with hquiet | ⟨hrun, hlen, hlost⟩
      · exact .inl hquiet
      · exact .inr ⟨hrun, by omega, hlost⟩
    · rcases ih (s.rxPush b) with hquiet | ⟨-, hlen, hlost⟩
      · exact .inl hquiet
      · exact .inr ⟨hrun, by simpa [Nat.add_assoc, Nat.add_comm 1] using hlen, hlost⟩
    · rcases ih { s with rxOvf := true } with hlost | ⟨-, -, hlost⟩ <;> exact .inr ⟨hrun, by omega, hlost⟩

/-! ### What an event can do -/

/-- What an event `i` that comes in by a port makes of `s`: either it is quiet, or it is a writer of the fields of `Kept`, with
the condition under which it writes. -/
inductive Effect (s : State) : Instr → State → Prop
  | quiet {i : Instr} {t : State} (kept : Kept s t) : Effect s i t
  | reset : Effect s .reset
      { State.reset with inputs := s.inputs, switchSamples := s.switchSamples, result := s.result }
  | advance (n : Time) : Effect s (.advance n) { s with time := s.time + n }
  | commit : Effect s .commit (commit s)
  | started (stopped : s.run = false) : Effect s (.start true)
      { s with run := true, axes := s.axes.map (AxisState.restartVelocityTime s.time) }
  | linkFailed (stopped : s.run = false) : Effect s (.start false) { s with linkFail := true }
  | shutdown : Effect s .shutdown (shutdown s)
  | clearSticky : Effect s .clearSticky (clearSticky s)
  | reservedCmd (opc : BitVec 8) : Effect s (.reservedCmd opc) (reservedCommand s)
  | byteLost (b : Byte) (running : s.run = true) (full : Config.params.rxbufDepth ≤ s.rxBuf.length) :
      Effect s (.rxByte b) { s with rxOvf := true }
  | frameOverflowed (ch : Vector (BitVec 16) 10) (pad : Vector Byte 8) (ck : BitVec 16) (buf : List Byte)
      (running : s.run = true) (full : Config.params.rxbufDepth < s.rxBuf.length + 32) :
      Effect s (.frame ch pad ck) { s with rxBuf := buf, rxOvf := true }
  | tick (sw1 sw2 : Bool) (running : s.run = true) (noPulse : s.pulseBusy = false) :
      Effect s (.tick sw1 sw2) (tick Config.params sw1 sw2 s)

theorem start_effect (linkOk : Bool) (s : State) : Effect s (.start linkOk) (start linkOk s) := by
  cases hrun : s.run
  · cases linkOk
    · have h : start false s = { s with linkFail := true } := by simp [start, hrun]
      exact h ▸ .linkFailed hrun
    · have h : start true s = { s with run := true, axes := s.axes.map (AxisState.restartVelocityTime s.time) } := by
        simp [start, hrun]
      exact h ▸ .started hrun
  · have h : start linkOk s = s := by simp [start, hrun]
    exact h.symm ▸ .quiet (Kept.refl s)

theorem rxByte_effect (b : Byte) (s : State) : Effect s (.rxByte b) (rxByte Config.params b s) := by
  rcases rxByte_cases Config.params b s with ⟨-, h⟩ | ⟨-, -, h⟩ | ⟨hrun, hfull, h⟩ <;> rw [h]
  · exact .quiet (Kept.refl s)
  · exact .quiet ⟨rfl, rfl, rfl, rfl, rfl, rfl, rfl, rfl, rfl, fun _ => rfl⟩
  · exact .byteLost b hrun hfull

theorem frame_effect (ch : Vector (BitVec 16) 10) (pad : Vector Byte 8) (ck : BitVec 16) (s : State) :
    Effect s (.frame ch pad ck) (rxBytes Config.params (frameBytes ch pad ck) s) := by
  rcases rxBytes_cases Config.params (frameBytes ch pad ck) s with ⟨buf, h⟩ | ⟨hrun, hfull, buf, h⟩ <;> rw [h]
  · exact .quiet ⟨rfl, rfl, rfl, rfl, rfl, rfl, rfl, rfl, rfl, fun _ => rfl⟩
  · exact .frameOverflowed ch pad ck buf hrun hfull

/-- A TICK is held, or has no effect while stopped, or runs its stages (46_control_loop.md R228, R229). -/
theorem tick_effect {sw1 sw2 : Bool} {s t : State} (h : execTick sw1 sw2 s = .next t) :
    Effect s (.tick sw1 sw2) t := by
  unfold execTick at h
  split at h <;> cases h
  · exact .quiet ⟨rfl, rfl, rfl, rfl, rfl, rfl, rfl, rfl, rfl, fun _ => rfl⟩
  next hbusy =>
    cases hrun : s.run
    · have hstopped : Machine.tick Config.params sw1 sw2 s = s := by simp [Machine.tick, hrun]
      exact hstopped.symm ▸ .quiet (Kept.refl s)
    · exact .tick sw1 sw2 hrun (by simpa using hbusy)

/-- What `exec` makes of a well-formed instruction that comes in by a port. -/
theorem exec_effect {i : Instr} {s t : State} (hwf : i.wellFormed = true) (hport : i.format ≠ .internal)
    (h : exec i s = .next t) : Effect s i t := by
  cases i with
  | regRead addr => cases h; exact .quiet ⟨rfl, rfl, rfl, rfl, rfl, rfl, rfl, rfl, rfl, fun _ => rfl⟩
  | regWrite addr d linkOk =>
    have haddr : addr ≠ 0x01 := by simpa [Instr.wellFormed] using hwf
    have hstore : regWrite Config.params addr d linkOk s = storeReg Config.params (regOf addr) d s := if_neg haddr
    cases h
    exact hstore ▸ .quiet (Kept.storeReg _ _ _ _)
  | nop => cases h; exact .quiet (Kept.refl s)
  | commit => cases h; exact .commit
  | enterSafeModeCmd => cases h; exact .quiet (Kept.enterSafeMode s)
  | startCalibration => cases h; exact .quiet (Kept.startCalibration s)
  | clearSticky => cases h; exact .clearSticky
  | start linkOk => cases h; exact start_effect linkOk s
  | shutdown => cases h; exact .shutdown
  | reservedCmd opc => cases h; exact .reservedCmd opc
  | frame ch pad ck => cases h; exact frame_effect ch pad ck s
  | rxByte b => cases h; exact rxByte_effect b s
  | tick sw1 sw2 => exact tick_effect h
  | advance n =>
    simp only [exec, execAdvance] at h
    split at h <;> cases h
    exact .advance n
  | reset => cases h; exact .reset
  | parse | failsafe | mix | calStep | profile | step | emitPulse | enterSafeMode => exact absurd rfl hport

/-! ### Which event a step runs -/

/-- The oldest requested input decodes to `i`. -/
def Takes (s : State) (i : Instr) : Prop := ∃ e rest, s.inputs = e :: rest ∧ decode e = .ok i

/-- A step runs its oldest requested input, or admits a held TICK. -/
def Runs (s : State) (i : Instr) : Prop := Takes s i ∨ 0 < s.heldTicks ∧ ∃ sw1 sw2, i = .tick sw1 sw2

/-- Only a TICK can come from elsewhere than the requested inputs. -/
theorem Runs.takes {s : State} {i : Instr} (h : Runs s i) (hi : ∀ sw1 sw2, i ≠ .tick sw1 sw2) : Takes s i := by
  rcases h with h | ⟨-, sw1, sw2, htick⟩
  · exact h
  · exact absurd htick (hi sw1 sw2)

theorem Runs.tick {s : State} {sw1 sw2 : Bool} (h : Runs s (.tick sw1 sw2)) :
    0 < s.heldTicks ∨ ∃ sw1 sw2, Takes s (.tick sw1 sw2) := by
  rcases h with h | ⟨hheld, -⟩
  · exact .inr ⟨sw1, sw2, h⟩
  · exact .inl hheld

/-- A step idles, or has the effect of the event it runs; before it the event is taken off its queue. -/
theorem step_effect {s t : State} (h : step s = .next t) :
    t = s ∨ ∃ i ins held samples, Runs s i ∧
      Effect { s with inputs := ins, heldTicks := held, switchSamples := samples } i t := by
  rcases step_cases h with rfl | ⟨i, s', hexec, ⟨n, -, hn, rfl, rfl⟩ | ⟨e, rest, he, hd, rfl⟩⟩
  · exact .inl rfl
  · exact .inr ⟨_, s.inputs, n, _, .inr ⟨by omega, _, _, rfl⟩, exec_effect rfl (by simp [Instr.format]) hexec⟩
  · obtain ⟨hwf, hport⟩ := decode_wellFormed hd
    exact .inr ⟨i, rest, s.heldTicks, s.switchSamples, .inl ⟨e, rest, he, hd⟩, exec_effect hwf hport hexec⟩

/-! ### The writers of each field -/

section
variable {s t : State} {i : Instr}

/-- TIME (10_state.md R31). -/
theorem Effect.time_cases (h : Effect s i t) :
    t.time = s.time ∨ (∃ n, i = .advance n ∧ t.time = s.time + n) ∨ i = .reset := by
  cases h with
  | quiet kept => exact .inl kept.time
  | reset => exact .inr (.inr rfl)
  | advance n => exact .inr (.inl ⟨n, rfl, rfl⟩)
  | shutdown => exact .inl (shutdown_time s)
  | tick sw1 sw2 running => exact .inl (tick_time _ _ _ running)
  | _ => exact .inl rfl

/-- The active settings (10_state.md R48). -/
theorem Effect.active_cases (h : Effect s i t) :
    t.active = s.active ∨ (i = .commit ∧ t.active = s.shadow) ∨ i = .reset := by
  cases h with
  | quiet kept => exact .inl kept.active
  | reset => exact .inr (.inr rfl)
  | commit => exact .inr (.inl ⟨rfl, rfl⟩)
  | shutdown => exact .inl (shutdown_active s)
  | tick sw1 sw2 running => exact .inl (tick_active _ _ _ running)
  | _ => exact .inl rfl

/-- The channels (40_framer.md R127, R128). -/
theorem Effect.ch_cases (h : Effect s i t) :
    t.ch = s.ch ∨ i = .reset ∨
    (s.run = true ∧ t.frameCnt = s.frameCnt + 1 ∧ ∃ n, n + 32 ≤ s.rxBuf.length ∧
      frameValid (s.rxBuf.drop n) = true ∧ t.ch = channelsOf (s.rxBuf.drop n) ∧ t.rxBuf = s.rxBuf.drop (n + 32)) := by
  cases h with
  | quiet kept => exact .inl kept.ch
  | reset => exact .inr (.inl rfl)
  | shutdown => exact .inl (shutdown_ch s)
  | tick sw1 sw2 running =>
    rw [tick_ch _ _ _ running, tick_frameCnt _ _ _ running, tick_rxBuf _ _ _ running]
    rcases parse_cases s with ⟨hfound, hp⟩ | ⟨-, hp⟩ <;> rw [hp]
    · obtain ⟨-, -, hwindow, -⟩ := scan_spec s.rxBuf
      obtain ⟨hlen, hvalid⟩ := hwindow hfound
      rw [List.length_drop] at hlen
      exact .inr (.inr ⟨running, rfl, _, by omega, hvalid, rfl, rfl⟩)
    · exact .inl rfl
  | _ => exact .inl rfl

/-- The velocities (10_state.md R41). -/
theorem Effect.vel_le (h : Effect s i t) (a : Axis) :
    (t.axis a).vel.toNat ≤ max (s.axis a).vel.toNat ((s.settings a).speed.toNat * Config.urpmPerRpm) := by
  have of_le {v : Nat} (hv : v ≤ (s.axis a).vel.toNat) :
      v ≤ max (s.axis a).vel.toNat ((s.settings a).speed.toNat * Config.urpmPerRpm) := hv.trans (le_max_left _ _)
  have restarted : ((s.axes.map (AxisState.restartVelocityTime s.time)).get a).vel.toNat ≤ (s.axis a).vel.toNat := by
    rw [PerAxis.get_map]
    exact le_rfl
  cases h with
  | quiet kept => exact of_le (by rw [kept.vel])
  | reset => cases a <;> exact Nat.zero_le _
  | commit => exact of_le restarted
  | started => exact of_le restarted
  | shutdown => simp
  | tick sw1 sw2 running => exact tick_vel_le _ _ _ running a
  | _ => exact of_le le_rfl

/-- RUN (10_state.md R32). -/
theorem Effect.run_cases (h : Effect s i t) :
    t.run = s.run ∨ i = .reset ∨ (i = .start true ∧ t.run = true) ∨ (i = .shutdown ∧ t.run = false) := by
  cases h with
  | quiet kept => exact .inl kept.run
  | reset => exact .inr (.inl rfl)
  | started => exact .inr (.inr (.inl ⟨rfl, rfl⟩))
  | shutdown => exact .inr (.inr (.inr ⟨rfl, shutdown_run s⟩))
  | tick sw1 sw2 running => exact .inl (tick_run _ _ _ running)
  | _ => exact .inl rfl

/-- CONN_LOST and FIRST_DONE: both are kept, or a tick delivers a frame, whose channel 6 decides them
(10_state.md R33, R34; 41_failsafe.md R141; 42_mixer.md R151). -/
theorem Effect.signal_cases (h : Effect s i t) :
    (t.connLost = s.connLost ∧ t.firstDone = s.firstDone) ∨ i = .reset ∨
    ((∃ sw1 sw2, i = .tick sw1 sw2) ∧ s.run = true ∧ s.pulseBusy = false ∧ t.frameCnt = s.frameCnt + 1 ∧
      t.connLost = decide (t.ch[6].toNat < 800) ∧
      (t.firstDone = s.firstDone ∨ t.firstDone = true ∧ 800 ≤ t.ch[6].toNat)) := by
  cases h with
  | quiet kept => exact .inl ⟨kept.connLost, kept.firstDone⟩
  | reset => exact .inr (.inl rfl)
  | shutdown => exact .inl ⟨shutdown_connLost s, shutdown_firstDone s⟩
  | tick sw1 sw2 running noPulse =>
    simp only [tick_connLost _ _ _ running, tick_firstDone _ _ _ running, tick_frameCnt _ _ _ running,
      tick_ch _ _ _ running]
    rcases receiveStages_signal s with hkept | hframe
    · exact .inl hkept
    · exact .inr (.inr ⟨⟨sw1, sw2, rfl⟩, running, noPulse, hframe⟩)
  | _ => exact .inl ⟨rfl, rfl⟩

/-- RX_OVF (10_state.md R35, 40_framer.md R122). -/
theorem Effect.rxOvf_cases (h : Effect s i t) :
    t.rxOvf = s.rxOvf ∨ i = .reset ∨ (i = .clearSticky ∧ t.rxOvf = false) ∨
    (t.rxOvf = true ∧ s.run = true ∧
      ((∃ b, i = .rxByte b ∧ Config.params.rxbufDepth ≤ s.rxBuf.length) ∨
       ∃ ch pad ck, i = .frame ch pad ck ∧ Config.params.rxbufDepth < s.rxBuf.length + 32)) := by
  cases h with
  | quiet kept => exact .inl kept.rxOvf
  | reset => exact .inr (.inl rfl)
  | shutdown => exact .inl (shutdown_rxOvf s)
  | clearSticky => exact .inr (.inr (.inl ⟨rfl, rfl⟩))
  | byteLost b running full => exact .inr (.inr (.inr ⟨rfl, running, .inl ⟨b, rfl, full⟩⟩))
  | frameOverflowed ch pad ck buf running full =>
    exact .inr (.inr (.inr ⟨rfl, running, .inr ⟨ch, pad, ck, rfl, full⟩⟩))
  | tick sw1 sw2 running => exact .inl (tick_rxOvf _ _ _ running)
  | _ => exact .inl rfl

/-- LINK_FAIL (10_state.md R35, 47_host_interface.md R260). -/
theorem Effect.linkFail_cases (h : Effect s i t) :
    t.linkFail = s.linkFail ∨ i = .reset ∨ (i = .clearSticky ∧ t.linkFail = false) ∨
    (i = .start false ∧ s.run = false ∧ t.linkFail = true) := by
  cases h with
  | quiet kept => exact .inl kept.linkFail
  | reset => exact .inr (.inl rfl)
  | shutdown => exact .inl (shutdown_linkFail s)
  | clearSticky => exact .inr (.inr (.inl ⟨rfl, rfl⟩))
  | linkFailed stopped => exact .inr (.inr (.inr ⟨rfl, stopped, rfl⟩))
  | tick sw1 sw2 running => exact .inl (tick_linkFail _ _ _ running)
  | _ => exact .inl rfl

/-- BAD_CMD (10_state.md R35, 47_host_interface.md R263). -/
theorem Effect.badCmd_cases (h : Effect s i t) :
    t.badCmd = s.badCmd ∨ i = .reset ∨ (i = .clearSticky ∧ t.badCmd = false) ∨
    ((∃ opc, i = .reservedCmd opc) ∧ t.badCmd = true) := by
  cases h with
  | quiet kept => exact .inl kept.badCmd
  | reset => exact .inr (.inl rfl)
  | shutdown => exact .inl (shutdown_badCmd s)
  | clearSticky => exact .inr (.inr (.inl ⟨rfl, rfl⟩))
  | reservedCmd opc => exact .inr (.inr (.inr ⟨⟨opc, rfl⟩, rfl⟩))
  | tick sw1 sw2 running => exact .inl (tick_badCmd _ _ _ running)
  | _ => exact .inl rfl

end

end Sys2Proof.Machine

namespace Sys2Proof.Proofs

open Sys2Proof Sys2Proof.Machine

/-- Settles O37: an event raises a velocity only by the ramp of a tick, which stops at the active speed. -/
theorem velocityRange : Obligations.VelocityRange := by
  intro s t a hstep
  rcases step_effect hstep with rfl | ⟨i, ins, held, samples, -, heff⟩
  · exact le_max_left _ _
  · exact heff.vel_le a

/-- Settles O55, by the writers of the active settings. -/
theorem onlyCommitChangesActiveSettings : Obligations.OnlyCommitChangesActiveSettings := by
  intro s t hstep hne
  rcases step_effect hstep with rfl | ⟨i, ins, held, samples, hruns, heff⟩
  · exact absurd rfl hne
  rcases heff.active_cases with hkept | ⟨rfl, hactive⟩ | rfl
  · exact absurd hkept hne
  · obtain ⟨e, rest, hin, hdec⟩ := hruns.takes nofun
    exact ⟨e, rest, hin, .inl ⟨hdec, hactive⟩⟩
  · obtain ⟨e, rest, hin, hdec⟩ := hruns.takes nofun
    exact ⟨e, rest, hin, .inr hdec⟩

/-- Settles O56, by the writers of TIME. -/
theorem onlyAdvanceMovesTime : Obligations.OnlyAdvanceMovesTime := by
  intro s t hstep hne
  rcases step_effect hstep with rfl | ⟨i, ins, held, samples, hruns, heff⟩
  · exact absurd rfl hne
  rcases heff.time_cases with hkept | ⟨n, rfl, htime⟩ | rfl
  · exact absurd hkept hne
  · obtain ⟨e, rest, hin, hdec⟩ := hruns.takes nofun
    exact ⟨e, rest, hin, .inl ⟨n, hdec, htime⟩⟩
  · obtain ⟨e, rest, hin, hdec⟩ := hruns.takes nofun
    exact ⟨e, rest, hin, .inr hdec⟩

/-- Settles O57, by the writers of the channels. -/
theorem channelsChangeOnlyWithAFrame : Obligations.ChannelsChangeOnlyWithAFrame := by
  intro s t hstep hne
  rcases step_effect hstep with rfl | ⟨i, ins, held, samples, hruns, heff⟩
  · exact absurd rfl hne
  rcases heff.ch_cases with hkept | rfl | hframe
  · exact absurd hkept hne
  · exact .inl (hruns.takes nofun)
  · exact .inr hframe

/-- Settles O59, flag by flag: each conjunct is what the writers of its flag leave open once the flag has changed and the event
is no RESET. -/
theorem flagsHaveTheirWriters : Obligations.FlagsHaveTheirWriters := by
  intro s t hstep
  rcases step_effect hstep with rfl | ⟨i, ins, held, samples, hruns, heff⟩
  · exact .inr ⟨absurd rfl, absurd rfl, absurd rfl, absurd rfl, absurd rfl, absurd rfl⟩
  by_cases hreset : i = .reset
  · subst hreset
    exact .inl (hruns.takes nofun)
  refine .inr ⟨fun hne => ?run, fun hne => ?connLost, fun hne => ?firstDone, fun hne => ?rxOvf, fun hne => ?linkFail,
    fun hne => ?badCmd⟩
  case run =>
    rcases heff.run_cases with hkept | hr | ⟨rfl, hon⟩ | ⟨rfl, hoff⟩
    · exact absurd hkept hne
    · exact absurd hr hreset
    · exact .inl ⟨hruns.takes nofun, hon⟩
    · exact .inr ⟨hruns.takes nofun, hoff⟩
  case connLost =>
    rcases heff.signal_cases with ⟨hkept, -⟩ | hr | ⟨⟨sw1, sw2, rfl⟩, hrun, hpulse, hcount, hlost, -⟩
    · exact absurd hkept hne
    · exact absurd hr hreset
    · exact ⟨⟨hrun, hpulse, hcount, hruns.tick⟩, hlost⟩
  case firstDone =>
    rcases heff.signal_cases with ⟨-, hkept⟩ | hr |
      ⟨⟨sw1, sw2, rfl⟩, hrun, hpulse, hcount, hlost, hkept | ⟨hdone, hvalid⟩⟩
    · exact absurd hkept hne
    · exact absurd hr hreset
    · exact absurd hkept hne
    · exact ⟨⟨hrun, hpulse, hcount, hruns.tick⟩, hdone, hlost.trans (decide_eq_false (Nat.not_lt.mpr hvalid)), hvalid⟩
  case rxOvf =>
    rcases heff.rxOvf_cases with hkept | hr | ⟨rfl, hcleared⟩ |
      ⟨hset, hrun, ⟨b, rfl, hfull⟩ | ⟨ch, pad, ck, rfl, hfull⟩⟩
    · exact absurd hkept hne
    · exact absurd hr hreset
    · exact .inl ⟨hruns.takes nofun, hcleared⟩
    · exact .inr ⟨hset, hrun, .inl ⟨b, hruns.takes nofun, hfull⟩⟩
    · exact .inr ⟨hset, hrun, .inr ⟨ch, pad, ck, hruns.takes nofun, hfull⟩⟩
  case linkFail =>
    rcases heff.linkFail_cases with hkept | hr | ⟨rfl, hcleared⟩ | ⟨rfl, hstopped, hset⟩
    · exact absurd hkept hne
    · exact absurd hr hreset
    · exact .inl ⟨hruns.takes nofun, hcleared⟩
    · exact .inr ⟨hruns.takes nofun, hstopped, hset⟩
  case badCmd =>
    rcases heff.badCmd_cases with hkept | hr | ⟨rfl, hcleared⟩ | ⟨⟨opc, rfl⟩, hset⟩
    · exact absurd hkept hne
    · exact absurd hr hreset
    · exact .inl ⟨hruns.takes nofun, hcleared⟩
    · exact .inr ⟨⟨opc, hruns.takes nofun⟩, hset⟩

end Sys2Proof.Proofs
end

section
/-! PROOFS. The host registers at their addresses: which bits of each word are always 0, which addresses hold nothing, and what
a write leaves (spec/20_memory.md R75–R77, R90); and the step that runs a decoded input (R84). -/

namespace Sys2Proof.Machine

/-! ### The width of a register -/

/-- How many low bits of an axis register can be 1. `AXa_IVL_HI` uses bit 31, so its hole is a lemma of its own. -/
def AxisReg.width : AxisReg → Nat
  | .velHi => 8
  | .out => 3
  | .position | .target | .velLo | .ivlLo | .ivlHi | .lstepLo | .lstepHi | .lvelLo | .lvelHi => 32

/-- How many low bits of a register can be 1; the rest of the word is a reserved field (20_memory.md R76, R77). -/
def Reg.width : Reg → Nat
  | .cmd | .reserved => 0
  | .calStatus => 7
  | .status => 11
  | .rxLevel | .ch _ | .shSpeed _ | .acSpeed _ => 16
  | .shLimit _ | .shFwd | .acLimit _ | .acFwd => 31
  | .id | .frameCnt | .dropCnt | .safeCnt | .timeLo | .timeHi | .calCount | .shAccel _ | .acAccel _ => 32
  | .axis _ r => r.width

theorem statusWord_reserved (s : State) {k : Nat} (hk : 5 ≤ k ∧ k ≤ 7 ∨ 11 ≤ k) : (statusWord s).getLsbD k = false := by
  obtain ⟨-, -, -, -, -, -, -, -, hzero, -⟩ := Proofs.flagWordsRead s
  exact hzero k hk

theorem calStatusWord_reserved (s : State) {k : Nat} (hk : 7 ≤ k) : (calStatusWord s).getLsbD k = false := by
  have hlt : (calStatusWord s).toNat < 2 ^ 7 := by
    have ht := s.calResThrottle.code_lt
    have hb := s.calResBrake.code_lt
    have hp := s.calPhase.code_lt
    have hc := s.calAxis.code_lt
    rw [calStatusWord_toNat]
    omega
  exact Nat.testBit_lt_two_pow (hlt.trans_le (Nat.pow_le_pow_right (by decide) hk))

theorem outWord_reserved (s : State) (a : Axis) {k : Nat} (hk : 3 ≤ k) : (outWord s a).getLsbD k = false := by
  have hne : k ≠ 0 ∧ k ≠ 1 ∧ k ≠ 2 := by omega
  simp [outWord_getLsbD, hne]

/-- Between `IVL[a][47:32]` and `INF[a]` the word is 0 (10_state.md R42). -/
theorem ivlHiWord_reserved (x : AxisState) {k : Nat} (hk : 16 ≤ k ∧ k ≤ 30) : (ivlHiWord x).getLsbD k = false := by
  have hne : k ≠ 31 := by omega
  rw [ivlHiWord, BitVec.getLsbD_or, setWidth32_getLsbD_high _ hk.1, flagBit_getLsbD _ _ (by decide)]
  simp [hne]

theorem axisRegValue_getLsbD_of_width_le (s : State) (a : Axis) (r : AxisReg) {k : Nat} (hk : r.width ≤ k) :
    (axisRegValue s a r).getLsbD k = false := by
  cases r with
  | velHi => exact setWidth32_getLsbD_high _ hk
  | out => exact outWord_reserved s a hk
  | position | target | velLo | ivlLo | ivlHi | lstepLo | lstepHi | lvelLo | lvelHi => exact BitVec.getLsbD_of_ge _ _ hk

/-- A register reads 0 above its width. -/
theorem regWord_getLsbD_of_width_le (s : State) (r : Reg) {k : Nat} (hk : r.width ≤ k) :
    (regWord s r).getLsbD k = false := by
  cases r with
  | cmd | reserved => exact BitVec.getLsbD_zero
  | calStatus => exact calStatusWord_reserved s hk
  | status => exact statusWord_reserved s (.inr hk)
  | rxLevel | ch | shSpeed | acSpeed | shLimit | shFwd | acLimit | acFwd => exact setWidth32_getLsbD_high _ hk
  | id | frameCnt | dropCnt | safeCnt | timeLo | timeHi | calCount | shAccel | acAccel => exact BitVec.getLsbD_of_ge _ _ hk
  | axis a r => exact axisRegValue_getLsbD_of_width_le s a r hk

/-! ### Reserved addresses -/

theorem regAt_control_gap {n : Nat} (h₁ : 0x0B ≤ n) (h₂ : n < 0x10) : regAt n = .reserved := by
  rw [regAt_control h₂]
  obtain ⟨k, rfl⟩ := Nat.exists_eq_add_of_le' h₁
  rfl

/-- Field 3 of the settings blocks, but for the transmission's forward limit (30_encoding.md R104). -/
theorem regAt_settings_gap {n : Nat} (h : n = 0x23 ∨ n = 0x27 ∨ n = 0x2B ∨ n = 0x33 ∨ n = 0x37 ∨ n = 0x3B) :
    regAt n = .reserved := by
  rcases h with rfl | rfl | rfl | rfl | rfl | rfl <;> rfl

theorem regAt_axis_gap {n : Nat} (h₁ : 0x40 ≤ n) (h₂ : n < 0x80) (hf : 11 ≤ n % 16) : regAt n = .reserved := by
  rw [regAt_axis h₁ h₂]
  obtain ⟨k, hk⟩ := Nat.exists_eq_add_of_le' hf
  rw [hk]
  rfl

/-- `CMD` and the reserved addresses hold no bit. -/
theorem width_regAt_reserved {n : Nat}
    (h : n = 0x01 ∨ 0x0B ≤ n ∧ n ≤ 0x0F ∨ 0x1A ≤ n ∧ n ≤ 0x1F ∨ n = 0x23 ∨ n = 0x27 ∨ n = 0x2B ∨ n = 0x33 ∨ n = 0x37 ∨
      n = 0x3B ∨ 0x40 ≤ n ∧ n ≤ 0x7F ∧ 11 ≤ n % 16 ∨ 0x80 ≤ n) : (regAt n).width = 0 := by
  rcases h with rfl | ⟨h₁, h₂⟩ | ⟨h₁, h₂⟩ | h
  · rfl
  · rw [regAt_control_gap h₁ (by omega)]; rfl
  · rw [regAt_channel_gap h₁ (by omega)]; rfl
  · have hreserved : regAt n = .reserved := by
      by_cases hlow : n < 0x40
      · exact regAt_settings_gap (by omega)
      · by_cases hhigh : n < 0x80
        · exact regAt_axis_gap (by omega) hhigh (by omega)
        · exact regAt_high (by omega)
    rw [hreserved]; rfl

/-! ### Reserved fields -/

/-- The shadow and the active block number their fields alike, `A & 3` (30_encoding.md R104). -/
theorem regAt_settings {n : Nat} (h₁ : 0x20 ≤ n) (h₂ : n < 0x40) :
    ∃ a, regAt n = shadowReg a (n % 4) ∨ regAt n = activeReg a (n % 4) := by
  by_cases h : n < 0x30
  · exact ⟨_, .inl (regAt_shadow h₁ h)⟩
  · exact ⟨_, .inr (regAt_active (by omega) h₂)⟩

theorem width_regAt_halfword {n : Nat} (h : n = 0x03 ∨ 0x10 ≤ n ∧ n ≤ 0x19 ∨ 0x20 ≤ n ∧ n ≤ 0x3F ∧ n % 4 = 0) :
    (regAt n).width = 16 := by
  rcases h with rfl | ⟨h₁, h₂⟩ | ⟨h₁, h₂, hf⟩
  · rfl
  · obtain ⟨k, rfl⟩ := Nat.exists_eq_add_of_le h₁
    have hchannel := regAt_channel ⟨k, by omega⟩
    dsimp only at hchannel
    rw [hchannel]; rfl
  · obtain ⟨a, hr | hr⟩ := regAt_settings h₁ (by omega) <;> rw [hr, hf] <;> rfl

theorem width_regAt_limit {n : Nat} (h₁ : 0x20 ≤ n) (h₂ : n ≤ 0x3F) (hf : 2 ≤ n % 4) : (regAt n).width ≤ 31 := by
  obtain ⟨a, hr⟩ := regAt_settings h₁ (by omega)
  have hfield : n % 4 = 2 ∨ n % 4 = 3 := by omega
  rcases hr with hr | hr <;> rcases hfield with hf | hf <;> rw [hr, hf]
  · exact le_rfl
  · cases a <;> decide
  · exact le_rfl
  · cases a <;> decide

theorem width_regAt_velHi {n : Nat} (h₁ : 0x40 ≤ n) (h₂ : n < 0x80) (hf : n % 16 = 3) : (regAt n).width = 8 := by
  rw [regAt_axis h₁ h₂, hf]
  rfl

theorem width_regAt_out {n : Nat} (h₁ : 0x40 ≤ n) (h₂ : n < 0x80) (hf : n % 16 = 10) : (regAt n).width = 3 := by
  rw [regAt_axis h₁ h₂, hf]
  rfl

theorem regAt_ivlHi {n : Nat} (h₁ : 0x40 ≤ n) (h₂ : n < 0x80) (hf : n % 16 = 5) : ∃ a, regAt n = .axis a .ivlHi := by
  rw [regAt_axis h₁ h₂, hf]
  exact ⟨_, rfl⟩

/-! ### Writes -/

theorem exec_regWrite_store {addr : Addr} (h : addr ≠ 0x01) (d : Word) (l : Bool) (s : State) :
    exec (.regWrite addr d l) s = .next (storeReg Config.params (regOf addr) d s) :=
  congrArg Host.Outcome.next (if_neg h)

/-- Writable registers stand in the shadow block, and not in its gaps. -/
theorem storedAt_range {r : Reg} {n : Nat} (h : storedAt r = some n) :
    0x20 ≤ n ∧ n < 0x30 ∧ n ≠ 0x23 ∧ n ≠ 0x27 ∧ n ≠ 0x2B := by
  cases r with
  | shSpeed a | shAccel a | shLimit a => cases h; cases a <;> decide
  | shFwd => cases h; decide
  | _ => cases h

/-- The register at an address is stored to at that address, or by no write. -/
theorem storedAt_regOf (addr : Addr) : storedAt (regOf addr) = none ∨ storedAt (regOf addr) = some addr.toNat :=
  storedAt_regAt ⟨addr.toNat, addr.isLt⟩

/-- No two addresses lead to the same stored register. -/
theorem regOf_ne_of_stored {addr b : Addr} (hb : b ≠ addr) (h : storedAt (regOf addr) = some addr.toNat) :
    regOf b ≠ regOf addr := by
  intro heq
  rcases storedAt_regOf b with hnone | hsome
  · rw [heq, h] at hnone
    cases hnone
  · rw [heq, h] at hsome
    exact hb (BitVec.eq_of_toNat_eq (Option.some.inj hsome).symm)

/-- A store through an address leaves what every other address reads. -/
theorem regValue_storeReg (P : Params) {addr b : Addr} (hb : b ≠ addr) (d : Word) (s : State) :
    regValue (storeReg P (regOf addr) d s) b = regValue s b := by
  rcases storedAt_regOf addr with hnone | hsome
  · rw [storeReg_inert P hnone]
  · exact regWord_storeReg P (regOf_ne_of_stored hb hsome) d s

end Sys2Proof.Machine

namespace Sys2Proof.Proofs

open Sys2Proof Sys2Proof.Machine

/-- Settles O7: the fetch takes the oldest input, and the step runs what it decodes to. -/
theorem stepRunsDecodedInput : Obligations.StepRunsDecodedInput :=
  fun _ _ _ _ hidle hinputs hdecode _ => step_of_decode_ok hidle hinputs hdecode

/-- Settles O15: reads by the width of the register at each address, writes because only the shadow block stores. -/
theorem reservedSpaceIsInert : Obligations.ReservedSpaceIsInert := by
  intro s addr d l n
  have zeroAbove {w : Nat} (hw : (regAt n).width ≤ w) (k : Nat) (hk : w ≤ k) : (regValue s addr).getLsbD k = false :=
    regWord_getLsbD_of_width_le s (regAt n) (hw.trans hk)
  refine ⟨?reserved, ?status, ?calStatus, ?halfword, ?limit, ?velHi, ?ivlHi, ?out, ?write⟩
  case reserved =>
    intro h
    have hzero : regValue s addr = 0 :=
      BitVec.eq_of_getLsbD_eq fun k _ => by
        rw [zeroAbove (width_regAt_reserved h).le k k.zero_le, BitVec.ofNat_eq_ofNat, BitVec.getLsbD_zero]
    exact congrArg (fun w => Host.Outcome.next { s with result := w }) hzero
  case status =>
    intro h k hk
    have hr : regValue s addr = statusWord s := congrArg (fun m => regWord s (regAt m)) h
    rw [hr]
    exact statusWord_reserved s hk
  case calStatus => exact fun h => zeroAbove (congrArg (fun m => (regAt m).width) h).le
  case halfword => exact fun h => zeroAbove (width_regAt_halfword h).le
  case limit => exact fun ⟨h₁, h₂, hf⟩ => zeroAbove (width_regAt_limit h₁ h₂ hf) 31 le_rfl
  case velHi => exact fun ⟨h₁, h₂, hf⟩ => zeroAbove (width_regAt_velHi h₁ (by omega) hf).le
  case ivlHi =>
    rintro ⟨h₁, h₂, hf⟩ k hk
    obtain ⟨a, hr⟩ := regAt_ivlHi h₁ (by omega) hf
    have hword : regValue s addr = ivlHiWord (s.axis a) := congrArg (regWord s) hr
    rw [hword]
    exact ivlHiWord_reserved _ hk
  case out => exact fun ⟨h₁, h₂, hf⟩ => zeroAbove (width_regAt_out h₁ (by omega) hf).le
  case write =>
    intro hne h
    have hcmd : addr ≠ 0x01 := fun heq => hne (congrArg BitVec.toNat heq)
    have hnone : storedAt (regOf addr) = none := by
      rcases storedAt_regOf addr with hnone | hsome
      · exact hnone
      · obtain ⟨h₁, h₂, h₃, h₄, h₅⟩ := storedAt_range hsome
        omega
    rw [exec_regWrite_store hcmd, storeReg_inert _ hnone]

/-- Settles O17: a write but the command's is a store, which keeps all but the shadow settings and what every other address
reads. -/
theorem registerWriteFrame : Obligations.RegisterWriteFrame := by
  intro s addr d l hcmd
  exact ⟨_, exec_regWrite_store hcmd d l s, storeReg_frame _ _ d s, fun _ hb => regValue_storeReg _ hb d s⟩

end Sys2Proof.Proofs
end

section
/-! PROOFS. Decoding and encoding (spec/30_encoding.md R92, R99–R103, R110): the decoder's answer on each encoded operation, the
port of what decodes, and the bits of a bus word. -/

namespace Sys2Proof

/-! ### The decoder on what the encoder writes -/

@[simp] theorem decode_bus_toNat (t : BusWord) (l : Bool) : decode (.bus t l.toNat) = .ok (decodeBus t l) := by
  simp [decode]

/-- A read takes nothing but its address from the word, and a write to 0x01 is a command (30_encoding.md R99, R100). -/
theorem decodeBus_busWord (w : Bool) (a : Addr) (d : Word) (l : Bool) :
    decodeBus (busWord w a d) l =
      if w then if a = 0x01 then decodeCommand (opcodeOf d) l else .regWrite a d l else .regRead a := by
  simp [decodeBus]

theorem decode_commandInput (opc : BitVec 8) (l : Bool) :
    decode (commandInput opc l) = .ok (decodeCommand opc l) := by
  simp [commandInput, decodeBus_busWord]

/-- A frame arrives with any channels, pad bytes and checksum (30_encoding.md R93, R95, R111). -/
theorem decodeWire_frameBytes (ch : Vector (BitVec 16) 10) (pad : Vector Byte 8) (ck : BitVec 16) :
    decodeWire (frameBytes ch pad ck) = .ok (.frame ch pad ck) := by
  have hheader := headerMatch_frameBytes ch pad ck []
  have hchannels := channelsOf_frameBytes ch pad ck []
  have hpad := padOf_frameBytes ch pad ck []
  have hck := rxck_frameBytes ch pad ck []
  rw [List.append_nil] at hheader hchannels hpad hck
  rw [decodeWire, if_pos ⟨frameBytes_length ch pad ck, hheader⟩, hchannels, hpad, hck]

theorem decode_rxByte_toNat (b : Byte) : decode (.rxByte b.toNat) = .ok (.rxByte b) := by
  simp [decode, b.isLt]

theorem decode_tick_toNat (sw1 sw2 : Bool) : decode (.tick sw1.toNat sw2.toNat) = .ok (.tick sw1 sw2) := by
  simp [decode]

theorem decode_advance_toNat {n : Time} (h : n ≠ 0) : decode (.advance n.toNat) = .ok (.advance n) := by
  have hpos : 0 < n.toNat := by bv_omega
  rw [decode, if_pos ⟨hpos, n.isLt⟩, BitVec.ofNat_toNat, BitVec.setWidth_eq]

/-! ### The port of what decodes -/

/-- An operation comes in by the port of its row's format (30_encoding.md R92). -/
theorem decode_format {e : Input} {i : Instr} (h : decode e = .ok i) : i.format = e.format := by
  cases e with
  | bus t link =>
    rcases decodeLevel_cases link with ⟨l, hl⟩ | hl <;> simp only [decode, hl] at h <;> cases h
    exact (decodeBus_wellFormed t l).2
  | wire bytes =>
    simp only [decode, decodeWire] at h
    split at h <;> cases h
    rfl
  | rxByte b | advance n =>
    simp only [decode] at h
    split at h <;> cases h
    rfl
  | tick sw1 sw2 =>
    simp only [decode] at h
    split at h <;> cases h
    rfl
  | reset => cases h; rfl

/-! ### The bits of a bus word -/

theorem busIsWrite_iff (t : BusWord) : busIsWrite t = true ↔ ¬ t.toNat < 2 ^ 40 := by
  have h := t.isLt
  rw [busIsWrite, BitVec.getLsbD, Nat.testBit_eq_decide_div_mod_eq, decide_eq_true_eq]
  omega

theorem busAddr_eq_ofNat (t : BusWord) : busAddr t = BitVec.ofNat 8 (t.toNat / 2 ^ 32) := by
  rw [busAddr, BitVec.extractLsb', Nat.shiftRight_eq_div_pow]

/-- The opcode is the low byte of the word (30_encoding.md R100). -/
theorem opcodeOf_busData_toNat (t : BusWord) : (opcodeOf (busData t)).toNat = t.toNat % 256 := by
  simp only [opcodeOf, busData, BitVec.extractLsb'_toNat, Nat.shiftRight_zero]
  omega

/-- The command opcode map, row by row (30_encoding.md R101, R102). -/
theorem decodeCommand_eq (opc : BitVec 8) (l : Bool) :
    decodeCommand opc l =
      if opc.toNat = 0 then .nop
      else if opc.toNat = 1 then .commit
      else if opc.toNat = 2 then .enterSafeModeCmd
      else if opc.toNat = 3 then .startCalibration
      else if opc.toNat = 4 then .clearSticky
      else if opc.toNat = 5 then .start l
      else if opc.toNat = 6 then .shutdown
      else .reservedCmd (BitVec.ofNat 8 opc.toNat) := by
  rw [BitVec.ofNat_toNat, BitVec.setWidth_eq, decodeCommand]
  split <;> simp [*]

end Sys2Proof

namespace Sys2Proof.Proofs

open Sys2Proof Sys2Proof.Machine

/-- Settles O1: the decoder's answer on the encoding of each constructor; the internal stages have none. -/
theorem decodeEncodeRoundTrip : Obligations.DecodeEncodeRoundTrip := by
  intro i hwf
  cases i with
  | regRead addr => exact (decode_bus_toNat _ false).trans (congrArg Except.ok (decodeBus_busWord false addr 0 false))
  | regWrite addr d l =>
    have haddr : addr ≠ 0x01 := by simpa [Instr.wellFormed] using hwf
    exact (decode_bus_toNat _ l).trans (by rw [decodeBus_busWord, if_pos rfl, if_neg haddr])
  | nop | commit | enterSafeModeCmd | startCalibration | clearSticky | shutdown => exact decode_commandInput _ false
  | start l => exact decode_commandInput 0x05 l
  | reservedCmd opc =>
    have hopc : 7 ≤ opc.toNat := of_decide_eq_true hwf
    exact (decode_commandInput opc false).trans (by rw [decodeCommand_reserved hopc])
  | frame ch pad ck => exact decodeWire_frameBytes ch pad ck
  | rxByte b => exact decode_rxByte_toNat b
  | tick sw1 sw2 => exact decode_tick_toNat sw1 sw2
  | advance n => exact decode_advance_toNat (by simpa [Instr.wellFormed] using hwf)
  | reset => rfl
  | parse | failsafe | mix | calStep | profile | step | emitPulse | enterSafeMode => rfl

/-- Settles O2: what decodes is well formed and of a port, so the round trip gives its encoding. -/
theorem decodedIsWellFormed : Obligations.DecodedIsWellFormed := by
  intro e i h
  obtain ⟨hwf, hport⟩ := decode_wellFormed h
  refine ⟨hwf, decode_format h, hport, ?_⟩
  have hround := decodeEncodeRoundTrip i hwf
  cases he : encode i with
  | some e' =>
    rw [he] at hround
    exact ⟨e', rfl, hround⟩
  | none =>
    rw [he] at hround
    exact absurd hround hport

/-- Settles O3: the decoder's tests on a word, read as tests on the number the word is. -/
theorem busWordsDecode : Obligations.BusWordsDecode := by
  intro t l a d opc
  have haddr : busAddr t = a := busAddr_eq_ofNat t
  have hopc : (opcodeOf (busData t)).toNat = opc := opcodeOf_busData_toNat t
  rw [decode_bus_toNat, decodeBus, decodeCommand_eq, haddr, hopc]
  by_cases hread : t.toNat < 2 ^ 40
  · rw [if_neg fun hw => (busIsWrite_iff t).mp hw hread, if_pos hread]
  · rw [if_pos ((busIsWrite_iff t).mpr hread), if_neg hread, ite_not]
    rfl

/-- Settles O4: each printed word is closed, and the decoder evaluates on it. -/
theorem sampleWordsDecode : Obligations.SampleWordsDecode := by
  unfold Obligations.SampleWordsDecode
  decide

end Sys2Proof.Proofs
end

section
/-! PROOFS. The frame (spec/30_encoding.md R93–R98, R111): its bytes, their sum and its checksum as numbers, what a valid window
is, and a frame received, parsed and latched. -/

namespace Sys2Proof

/-! ### Bytes and halfwords as numbers -/

theorem le16_toNat (lo hi : Byte) : (le16 lo hi).toNat = lo.toNat + 256 * hi.toNat := by
  rw [le16, BitVec.toNat_ofNat]
  omega

theorem loByte_toNat (v : BitVec 16) : (loByte v).toNat = v.toNat % 256 := by
  rw [loByte, BitVec.extractLsb'_toNat, Nat.shiftRight_zero]

theorem hiByte_toNat (v : BitVec 16) : (hiByte v).toNat = v.toNat / 256 := by
  rw [hiByte, BitVec.extractLsb'_toNat, Nat.shiftRight_eq_div_pow]
  omega

/-! ### The byte sum and the checksum -/

theorem byteSum_cons (b : Byte) (w : List Byte) : byteSum (b :: w) = b.toNat + byteSum w := by simp [byteSum]

theorem byteSum_header (w : List Byte) : byteSum (Config.hdr0 :: Config.hdr1 :: w) = 96 + byteSum w := by
  have hhdr0 : Config.hdr0.toNat = 32 := rfl
  have hhdr1 : Config.hdr1.toNat = 64 := rfl
  rw [byteSum_cons, byteSum_cons]
  omega

theorem byteSum_append (v w : List Byte) : byteSum (v ++ w) = byteSum v + byteSum w := by simp [byteSum]

theorem byteSum_le (w : List Byte) : byteSum w ≤ 255 * w.length := by
  induction w with
  | nil => exact le_rfl
  | cons b w ih =>
    rw [byteSum_cons, List.length_cons]
    omega

/-- The sum a checksum is made from: at most 30 bytes, so it is far from 2^16 (30_encoding.md R96). -/
theorem byteSum_span_le (w : List Byte) : byteSum (w.take Config.ckSpan) ≤ 7650 := by
  have hsum := byteSum_le (w.take Config.ckSpan)
  have hlen : (w.take Config.ckSpan).length ≤ 30 := List.length_take_le _ w
  omega

/-- The header alone gives 0x20 + 0x40. -/
theorem byteSum_span_ge {w : List Byte} (h : headerMatch w = true) : 96 ≤ byteSum (w.take Config.ckSpan) := by
  obtain ⟨tail, rfl⟩ := (headerMatch_iff w).mp h
  exact (Nat.le_add_right 96 _).trans_eq (byteSum_header (tail.take 28)).symm

/-- The mask of R96 changes nothing. -/
theorem checksum_toNat (w : List Byte) : (checksum w).toNat = 65535 - byteSum (w.take Config.ckSpan) := by
  have h := byteSum_span_le w
  rw [checksum, BitVec.toNat_ofInt]
  omega

/-! ### Valid windows -/

theorem headerMatch_iff_bytes (w : List Byte) : headerMatch w = true ↔ byteAt w 0 = 0x20 ∧ byteAt w 1 = 0x40 := by
  simp [headerMatch, Config.hdr0, Config.hdr1]

/-- Validity in integers (30_encoding.md R97). -/
theorem frameValid_iff (w : List Byte) :
    frameValid w = true ↔
      headerMatch w = true ∧
        (byteAt w 30).toNat + 256 * (byteAt w 31).toNat = 65535 - byteSum (w.take Config.ckSpan) := by
  rw [frameValid, Bool.and_eq_true, beq_iff_eq, ← BitVec.toNat_inj, checksum_toNat, rxck, le16_toNat]
  exact and_congr_right fun _ => eq_comm

/-! ### The bytes of a frame -/

theorem toList_eq_ofFn {α : Type} {n : Nat} (v : Vector α n) : v.toList = List.ofFn fun k : Fin n => v[k] := by
  rw [← Vector.toList_ofFn]
  exact congrArg Vector.toList Vector.ofFn_getElem.symm

/-- A frame's body in its parts: header, each channel low byte first, pad bytes (30_encoding.md R93). -/
theorem frameBody_eq (ch : Vector (BitVec 16) 10) (pad : Vector Byte 8) :
    frameBody ch pad =
      Config.hdr0 :: Config.hdr1 :: (ch.toList.flatMap (fun c => [loByte c, hiByte c]) ++ pad.toList) := by
  rw [toList_eq_ofFn ch, toList_eq_ofFn pad]
  rfl

theorem byteSum_channels (cs : List (BitVec 16)) :
    byteSum (cs.flatMap fun c => [loByte c, hiByte c]) = (cs.map fun c => c.toNat % 256 + c.toNat / 256).sum := by
  induction cs with
  | nil => rfl
  | cons c cs ih =>
    rw [List.flatMap_cons, byteSum_append, ih, byteSum_cons, byteSum_cons, loByte_toNat, hiByte_toNat, List.map_cons,
      List.sum_cons]
    rfl

theorem byteSum_frameBody (ch : Vector (BitVec 16) 10) (pad : Vector Byte 8) :
    byteSum (frameBody ch pad) =
      96 + (ch.toList.map fun c => c.toNat % 256 + c.toNat / 256).sum + byteSum pad.toList := by
  rw [frameBody_eq, byteSum_header, byteSum_append, byteSum_channels, Nat.add_assoc]

section
variable (ch : Vector (BitVec 16) 10) (pad : Vector Byte 8) (ck : BitVec 16)

theorem byteAt_frameBytes_lo (k : Fin 10) : byteAt (frameBytes ch pad ck) (2 + 2 * k) = loByte ch[k] := by
  fin_cases k <;> rfl

theorem byteAt_frameBytes_hi (k : Fin 10) : byteAt (frameBytes ch pad ck) (3 + 2 * k) = hiByte ch[k] := by
  fin_cases k <;> rfl

theorem byteAt_frameBytes_pad (j : Fin 8) : byteAt (frameBytes ch pad ck) (22 + j) = pad[j] := by
  fin_cases j <;> rfl

theorem chan_frameBytes (k : Fin 10) : chan (frameBytes ch pad ck) k = ch[k] := by
  rw [chan, byteAt_frameBytes_lo, byteAt_frameBytes_hi, le16_lo_hi]

/-- The checksum bytes read as the checksum. -/
theorem rxck_bytes_frameBytes :
    (byteAt (frameBytes ch pad ck) 30).toNat + 256 * (byteAt (frameBytes ch pad ck) 31).toNat = ck.toNat := by
  rw [← le16_toNat]
  exact congrArg BitVec.toNat (le16_lo_hi ck)

end

end Sys2Proof

namespace Sys2Proof.Machine

/-! ### A frame received and parsed -/

/-- Bytes for which there is room are all pushed, in order (40_framer.md R122). -/
theorem rxBytes_of_room {P : Params} {bs : List Byte} {s : State} (hrun : s.run = true)
    (hroom : s.rxBuf.length + bs.length ≤ P.rxbufDepth) : rxBytes P bs s = { s with rxBuf := s.rxBuf ++ bs } := by
  induction bs generalizing s with
  | nil => rw [List.append_nil]; rfl
  | cons b bs ih =>
    rw [List.length_cons] at hroom
    have hpush : rxByte P b s = s.rxPush b := by
      rcases rxByte_cases P b s with ⟨hstopped, -⟩ | ⟨-, -, h⟩ | ⟨-, hfull, -⟩
      · rw [hrun] at hstopped
        cases hstopped
      · exact h
      · omega
    calc rxBytes P (b :: bs) s = rxBytes P bs (s.rxPush b) := congrArg (rxBytes P bs) hpush
      _ = { s with rxBuf := (s.rxBuf ++ [b]) ++ bs } := ih hrun (by simp; omega)
      _ = { s with rxBuf := s.rxBuf ++ b :: bs } := by rw [List.append_assoc]; rfl

/-- A buffer that holds one valid frame and nothing else: PARSE delivers it and drops no byte (40_framer.md R127). -/
theorem parse_of_frame (s : State) (ch : Vector (BitVec 16) 10) (pad : Vector Byte 8) :
    parse { s with rxBuf := frameBytes ch pad (checksum (frameBody ch pad)) } =
      ({ s with rxBuf := [], ch := ch, frameCnt := s.frameCnt + 1 }, true) := by
  have hvalid := frameValid_frameBytes ch pad []
  have hchannels := channelsOf_frameBytes ch pad (checksum (frameBody ch pad)) []
  rw [List.append_nil] at hvalid hchannels
  have hscan : scan (frameBytes ch pad (checksum (frameBody ch pad))) = (0, true) :=
    scan_found _ 0 (frameBytes_length ch pad _).ge hvalid nofun
  rcases parse_cases { s with rxBuf := frameBytes ch pad (checksum (frameBody ch pad)) } with ⟨-, hp⟩ | ⟨hnone, -⟩
  · rw [hp]
    simp [hscan, hchannels]
  · rw [hscan] at hnone
    cases hnone

end Sys2Proof.Machine

namespace Sys2Proof.Proofs

open Sys2Proof Sys2Proof.Machine

/-- Settles O5: the sum of a window's first 30 bytes lies between 96 and 7650, so the checksum never wraps. -/
theorem frameValidity : Obligations.FrameValidity := by
  intro w _ total
  have htotal : byteSum (w.take Config.ckSpan) = total := rfl
  have hle : total ≤ 7650 := byteSum_span_le w
  have hck : (checksum w).toNat = 65535 - total := checksum_toNat w
  refine ⟨?iff, fun hheader => ?range, fun hvalid => ?high⟩
  case iff =>
    rw [frameValid_iff, headerMatch_iff_bytes, and_assoc, htotal]
    exact and_congr_right fun _ => and_congr_right fun _ => by omega
  case range =>
    have hge : 96 ≤ total := byteSum_span_ge hheader
    exact ⟨hge, hle, hck, by omega, by omega⟩
  case high =>
    obtain ⟨-, hsum⟩ := (frameValid_iff w).mp hvalid
    rw [htotal] at hsum
    omega

/-- Settles O6: the layout is that of every frame, here with zero pad bytes and the checksum of the frame's own body. -/
theorem constructedFrames : Obligations.ConstructedFrames := by
  intro ch
  refine ⟨rfl, rfl, rfl, fun k => ⟨?lo, ?hi⟩, fun j => ?pad, ?sum, ?valid, chan_frameBytes ch zeroPad _⟩
  case lo => exact (congrArg BitVec.toNat (byteAt_frameBytes_lo ch zeroPad _ k)).trans (loByte_toNat _)
  case hi => exact (congrArg BitVec.toNat (byteAt_frameBytes_hi ch zeroPad _ k)).trans (hiByte_toNat _)
  case pad =>
    refine (byteAt_frameBytes_pad ch zeroPad _ j).trans ?_
    fin_cases j <;> rfl
  case sum =>
    have hck := (rxck_bytes_frameBytes ch zeroPad (checksum (frameBody ch zeroPad))).trans (checksum_toNat _)
    have hspan : (frameBody ch zeroPad).take Config.ckSpan = frameBody ch zeroPad := rfl
    have hle := byteSum_span_le (frameBody ch zeroPad)
    have hsum := byteSum_frameBody ch zeroPad
    have hzero : byteSum zeroPad.toList = 0 := rfl
    have hcast : (ch.toList.map fun c => (c.toNat % 256 + c.toNat / 256 : Int)).sum =
        ((ch.toList.map fun c => c.toNat % 256 + c.toNat / 256).sum : Nat) := by
      rw [Nat.cast_list_sum, List.map_map]
      rfl
    rw [hspan] at hck hle
    rw [hcast, enc]
    omega
  case valid =>
    have h := frameValid_frameBytes ch zeroPad []
    rwa [List.append_nil] at h

/-- Settles O32: the empty buffer has room for the 32 bytes, whatever its depth, and then holds one valid frame alone. -/
theorem receivedFrameRoundTrips : Obligations.ReceivedFrameRoundTrips := by
  intro s ch pad hrun hempty
  have hroom : s.rxBuf.length + (frameBytes ch pad (checksum (frameBody ch pad))).length ≤ Config.params.rxbufDepth := by
    rw [hempty]
    exact Config.params.rxbufDepth_bounds.1
  refine ⟨_, congrArg Host.Outcome.next (rxBytes_of_room hrun hroom), ?_⟩
  rw [hempty, List.nil_append]
  simp only [exec, execParse, parse_of_frame, ← hempty]
  rfl

end Sys2Proof.Proofs
end

section
/-! PROOFS. The framer (spec/40_framer.md): one byte and many bytes received, and what PARSE makes of a buffer that holds a valid
frame behind garbage, or none. -/

namespace Sys2Proof.Machine

/-! ### Bytes received while stopped, and into a buffer that fills up -/

section
variable {P : Params} {s : State}

theorem rxByte_stopped (b : Byte) (hstopped : s.run = false) : rxByte P b s = s := by
  rcases rxByte_cases P b s with ⟨-, h⟩ | ⟨hrun, -⟩ | ⟨hrun, -⟩
  · exact h
  · simp [hstopped] at hrun
  · simp [hstopped] at hrun

theorem rxByte_room (b : Byte) (hrun : s.run = true) (hroom : s.rxBuf.length < P.rxbufDepth) :
    rxByte P b s = s.rxPush b := by
  rcases rxByte_cases P b s with ⟨hstopped, -⟩ | ⟨-, -, h⟩ | ⟨-, hfull, -⟩
  · simp [hrun] at hstopped
  · exact h
  · omega

theorem rxBytes_cons (b : Byte) (bs : List Byte) : rxBytes P (b :: bs) s = rxBytes P bs (rxByte P b s) := rfl

theorem rxBytes_stopped (bs : List Byte) (hstopped : s.run = false) : rxBytes P bs s = s := by
  induction bs with
  | nil => rfl
  | cons b bs ih => rw [rxBytes_cons, rxByte_stopped b hstopped, ih]

/-- A full buffer keeps its bytes, and every further one is lost (40_framer.md R122). -/
theorem rxBytes_full (bs : List Byte) (hrun : s.run = true) (hfull : P.rxbufDepth ≤ s.rxBuf.length) :
    rxBytes P bs s = { s with rxOvf := s.rxOvf || !bs.isEmpty } := by
  induction bs generalizing s with
  | nil => simp [rxBytes]
  | cons b bs ih =>
    rw [rxBytes_cons, rxByte_full b hrun hfull, ih (s := { s with rxOvf := true }) hrun hfull]
    simp

/-- The bytes for which there is room are pushed, the others are lost (40_framer.md R122): the case split is on whether the next
byte finds the buffer full, after which no later one finds room. -/
theorem rxBytes_running (bs : List Byte) (hrun : s.run = true) (hbound : s.rxBuf.length ≤ P.rxbufDepth) :
    rxBytes P bs s =
      { s with
        rxBuf := (s.rxBuf ++ bs).take P.rxbufDepth
        rxOvf := s.rxOvf || decide (P.rxbufDepth < s.rxBuf.length + bs.length) } := by
  induction bs generalizing s with
  | nil => simp [rxBytes, List.take_of_length_le hbound, hbound.not_gt]
  | cons b bs ih =>
    rcases hbound.lt_or_eq with hroom | hfull
    · rw [rxBytes_cons, rxByte_room b hrun hroom, ih (s := s.rxPush b) hrun (by simpa using hroom)]
      simp [State.rxPush, Nat.add_assoc, Nat.add_comm 1]
    · rw [rxBytes_full _ hrun hfull.ge, ← hfull]
      simp

end

/-! ### PARSE by the answer of its loop -/

section
variable {s : State} {n : Nat}

theorem parse_of_scan_found (hscan : scan s.rxBuf = (n, true)) :
    parse s =
      ({ s with
          rxBuf := s.rxBuf.drop (n + 32), ch := channelsOf (s.rxBuf.drop n), frameCnt := s.frameCnt + 1
          dropCnt := s.dropCnt + BitVec.ofNat 32 n }, true) := by
  rcases parse_cases s with ⟨-, h⟩ | ⟨hnone, -⟩
  · rw [h, hscan]
  · simp [hscan] at hnone

theorem parse_of_scan_none (hscan : scan s.rxBuf = (n, false)) :
    parse s = ({ s with rxBuf := s.rxBuf.drop n, dropCnt := s.dropCnt + BitVec.ofNat 32 n }, false) := by
  rcases parse_cases s with ⟨hfound, -⟩ | ⟨-, h⟩
  · simp [hscan] at hfound
  · rw [h, hscan]

end

theorem exec_parse_of_parse {s t : State} {frameOk : Bool} (h : parse s = (t, frameOk)) :
    exec .parse s = .next { t with result := (BitVec.ofBool frameOk).setWidth 32 } := by
  show execParse s = _
  rw [execParse, h]

end Sys2Proof.Machine

namespace Sys2Proof.Proofs

open Sys2Proof Sys2Proof.Machine

/-- Settles O29: a FRAME is its 32 bytes received one after another. -/
theorem frameBytesArrive : Obligations.FrameBytesArrive := by
  intro s ch pad ck
  exact ⟨fun hstopped => congrArg Host.Outcome.next (rxBytes_stopped _ hstopped),
    fun hrun hbound => congrArg Host.Outcome.next (rxBytes_running _ hrun hbound)⟩

/-- Settles O30: the loop of PARSE stops at the frame, because it is valid and no window before it is. -/
theorem parseDeliversAfterGarbage : Obligations.ParseDeliversAfterGarbage := by
  intro s garbage rest ch pad hbuf hbad
  have hframe : s.rxBuf.drop garbage.length = frameBytes ch pad (checksum (frameBody ch pad)) ++ rest := by
    rw [hbuf, List.drop_left]
  have hrest : s.rxBuf.drop (garbage.length + 32) = rest := by
    rw [← List.drop_drop, hframe]
    exact List.drop_left' (frameBytes_length ch pad _)
  have hscan : scan s.rxBuf = (garbage.length, true) := by
    refine scan_found _ _ ?_ ?_ hbad
    · simp [hframe]
    · rw [hframe, frameValid_frameBytes]
  rw [exec_parse_of_parse (parse_of_scan_found hscan), hframe, hrest, channelsOf_frameBytes]
  rfl

/-- Settles O31: the loop of PARSE drops a byte for each window, and ends at the 31 bytes or fewer that hold none. -/
theorem parseWithoutFrame : Obligations.ParseWithoutFrame := by
  intro s hbad
  have hscan : scan s.rxBuf = (s.rxBuf.length - 31, false) := by
    refine scan_none _ fun i hwindow => hbad i ?_
    rw [List.length_drop] at hwindow
    omega
  exact exec_parse_of_parse (parse_of_scan_none hscan)

/-- Settles O28: the three outcomes of a byte's arrival. -/
theorem rxByteArrives : Obligations.RxByteArrives := by
  intro s b
  exact ⟨fun hstopped => congrArg Host.Outcome.next (rxByte_stopped b hstopped),
    fun hrun hroom => congrArg Host.Outcome.next (rxByte_room b hrun hroom),
    fun hrun hfull => congrArg Host.Outcome.next (rxByte_full b hrun hfull)⟩

end Sys2Proof.Proofs
end

section
/-! PROOFS. The failsafe (spec/41_failsafe.md): safe-mode entry, the FAILSAFE stage, and what a whole tick does to the signal
state and the targets where it delivers a frame with a lost or a valid signal, or finds no frame. -/

namespace Sys2Proof.Machine

/-! ### Safe-mode entry -/

/-- The brake's full travel limit fits its target (41_failsafe.md R143). -/
theorem enterSafeMode_brake_tgt_toInt (s : State) :
    ((enterSafeMode s).axis .brake).tgt.toInt = (s.settings .brake).limit.toNat := by
  have hlimit := (s.settings .brake).limit.isLt
  exact toInt_ofInt32 (by omega) (by omega)

/-- A second safe-mode entry counts and does nothing else (41_failsafe.md R144). -/
theorem enterSafeMode_enterSafeMode (s : State) :
    enterSafeMode (enterSafeMode s) = { enterSafeMode s with safeCnt := (enterSafeMode s).safeCnt + 1 } := rfl

/-! ### The stage -/

/-- FAILSAFE on a delivered frame, by its channel 6 and the flag (41_failsafe.md R141, R142). -/
theorem failsafe_of_frame (s : State) :
    failsafe true s =
      if 800 ≤ s.ch[6].toNat then ({ s with connLost := false }, true)
      else if s.connLost then (s, false)
      else (enterSafeMode { s with connLost := true }, false) := by
  rcases failsafe_cases true s with ⟨hnone, -⟩ | ⟨-, hvalid, h⟩ | ⟨-, hlost, hflag, h⟩ | ⟨-, hlost, hflag, h⟩
  · cases hnone
  · rw [h, if_pos hvalid]
  · rw [h, if_neg (Nat.not_le.mpr hlost), if_pos hflag]
  · rw [h, if_neg (Nat.not_le.mpr hlost), if_neg (by simp [hflag])]

theorem exec_failsafe_of_failsafe {frameOk sigOk : Bool} {s t : State} (h : failsafe frameOk s = (t, sigOk)) :
    exec (.failsafe frameOk) s = .next { t with result := (BitVec.ofBool sigOk).setWidth 32 } := by
  show execFailsafe frameOk s = _
  rw [execFailsafe, h]

/-! ### The clamped target -/

/-- The clamp to the travel range, in the settings' own numbers (44_step.md R182, 10_state.md R49). -/
theorem clampedTarget_eq_min_max (c : Settings) (a : Axis) (x : AxisState) :
    clampedTarget c a x =
      min (max x.tgt.toInt (-((c.axes.get a).limit.toNat : Int)))
        (if a = .transmission then (c.fwd.toNat : Int) else (c.axes.get a).limit.toNat) := by
  cases a <;> rfl

theorem clampedTarget_of_in_range {c : Settings} {a : Axis} {x : AxisState} (hlo : c.lo a ≤ x.tgt.toInt)
    (hhi : x.tgt.toInt ≤ c.hi a) : clampedTarget c a x = x.tgt.toInt := clamp_eq_self hlo hhi

/-- The clamp reads nothing of an axis but its target. -/
theorem clampedTarget_congr {c : Settings} {a : Axis} {x y : AxisState} (h : x.tgt = y.tgt) :
    clampedTarget c a x = clampedTarget c a y := by
  rw [clampedTarget, clampedTarget, h]

/-- Safe mode's steering and throttle targets are in every travel range. -/
theorem clampedTarget_of_tgt_zero {c : Settings} {a : Axis} {x : AxisState} (h : x.tgt = 0) :
    clampedTarget c a x = 0 := by
  obtain ⟨-, hlo, hhi, -⟩ := c.range a
  have hzero : x.tgt.toInt = 0 := by rw [h]; rfl
  rw [clampedTarget_of_in_range (by omega) (by omega), hzero]

/-- Safe mode's brake target is the upper end of the travel range, which the clamp keeps. -/
theorem clampedTarget_enterSafeMode_brake (s : State) :
    clampedTarget s.active .brake ((enterSafeMode s).axis .brake) = (s.settings .brake).limit.toNat := by
  have hbrake := enterSafeMode_brake_tgt_toInt s
  have hhi : s.active.hi .brake = (s.settings .brake).limit.toNat := rfl
  obtain ⟨-, hlo, -, -⟩ := s.active.range .brake
  rw [clampedTarget_of_in_range (by omega) (by omega), hbrake]

/-! ### Targets and counters of a tick -/

/-- STEP stores the clamped target, whether or not it moves the axis (44_step.md R182). -/
theorem stepAxis_tgt_toInt (P : Params) (c : Settings) (a : Axis) (now : Time) (x : AxisState) :
    (stepAxis P c a now x).tgt.toInt = clampedTarget c a x := by
  rcases stepAxis_cases P c a now x with ⟨-, h⟩ | ⟨-, -, h⟩ | ⟨-, -, h⟩ <;> rw [h] <;>
    exact setTarget_clamped_toInt c a x

theorem exec_tick_of_idle {s : State} (sw1 sw2 : Bool) (hidle : s.pulseBusy = false) :
    exec (.tick sw1 sw2) s = .next (tick Config.params sw1 sw2 s) := by
  show execTick sw1 sw2 s = _
  rw [execTick, hidle]
  rfl

section
variable (P : Params) (sw1 sw2 : Bool) {s : State} (hrun : s.run = true)
include hrun

theorem tick_safeCnt : (tick P sw1 sw2 s).safeCnt = (receiveStages s).safeCnt := by rw [tick_frame P sw1 sw2 hrun]

/-- With no calibration running every target is the clamp of what the receive stages leave (46_control_loop.md R231). -/
theorem tick_tgt_toInt (hcal : s.calActive = false) (a : Axis) :
    ((tick P sw1 sw2 s).axis a).tgt.toInt = clampedTarget s.active a ((receiveStages s).axis a) := by
  have hinactive : (receiveStages s).calActive = false := by rw [receiveStages_frame]; exact hcal
  have hfree : (receiveStages s).held a = false := by simp [State.held, hinactive]
  rw [tick_axis P sw1 sw2 hrun, calStep_inactive P sw1 sw2 hinactive, hfree,
    if_neg Bool.false_ne_true, stepAxis_tgt_toInt, clampedTarget_congr (profileAxis_tgt _ _ _ _)]

end

/-! ### A frame at the front of the buffer -/

section
variable {s : State} {ch : Vector (BitVec 16) 10} {pad : Vector Byte 8} {rest : List Byte}
  (hbuf : s.rxBuf = frameBytes ch pad (checksum (frameBody ch pad)) ++ rest)
include hbuf

theorem scan_of_leading_frame : scan s.rxBuf = (0, true) := by
  rw [hbuf]
  exact scan_found _ 0 (by simp) (frameValid_frameBytes ch pad rest) nofun

/-- PARSE delivers a leading frame and drops no byte before it (40_framer.md R127). -/
theorem parse_of_leading_frame :
    parse s = ({ s with rxBuf := rest, ch := ch, frameCnt := s.frameCnt + 1 }, true) := by
  have hrest : s.rxBuf.drop 32 = rest := by
    rw [hbuf]
    exact List.drop_left' (frameBytes_length ch pad _)
  have hch : channelsOf s.rxBuf = ch := by rw [hbuf, channelsOf_frameBytes]
  rw [parse_of_scan_found (scan_of_leading_frame hbuf)]
  simp [hrest, hch]

/-- The receive stages on a delivered frame: FAILSAFE on its channels, and MIX where it finds the signal valid. -/
theorem receiveStages_of_leading_frame :
    receiveStages s =
      if 800 ≤ ch[6].toNat then
        mix { s with rxBuf := rest, ch := ch, frameCnt := s.frameCnt + 1, connLost := false }
      else if s.connLost then { s with rxBuf := rest, ch := ch, frameCnt := s.frameCnt + 1 }
      else enterSafeMode { s with rxBuf := rest, ch := ch, frameCnt := s.frameCnt + 1, connLost := true } := by
  simp only [receiveStages, parse_of_leading_frame hbuf, failsafe_of_frame]
  split
  · rfl
  · split <;> rfl

end

/-! ### The targets of MIX -/

/-- MIX's targets depend on the channels and the active settings alone (42_mixer.md R150). -/
theorem mix_tgt_congr {s t : State} (hch : s.ch = t.ch) (hactive : s.active = t.active) (a : Axis) :
    ((mix s).axis a).tgt = ((mix t).axis a).tgt := by
  rw [mix, mix, steeringPin_eq, steeringPin_eq]
  cases a <;> simp [mixTargets, State.axis, hch, hactive]

end Sys2Proof.Machine

namespace Sys2Proof.Proofs

open Sys2Proof Sys2Proof.Machine

/-- Settles O48: the delivered frame enters safe mode instead of being mixed, and the safe targets are in every travel range,
so the clamp of STEP leaves them. -/
theorem lostSignalSuppressesMixing : Obligations.LostSignalSuppressesMixing := by
  intro s sw1 sw2 ch pad rest hidle hrun hcal hvalid hbuf hlost
  have hparse := parse_of_leading_frame hbuf
  have hsafe : receiveStages s =
      enterSafeMode { s with rxBuf := rest, ch := ch, frameCnt := s.frameCnt + 1, connLost := true } := by
    rw [receiveStages_of_leading_frame hbuf, if_neg (Nat.not_le.mpr hlost), hvalid]
    rfl
  have htgt := tick_tgt_toInt Config.params sw1 sw2 hrun hcal
  rw [hsafe] at htgt
  refine ⟨_, exec_tick_of_idle sw1 sw2 hidle, ?connLost, ?safeCnt, ?firstDone, ?ch, ?rxBuf, ?frameCnt, ?steering,
    ?throttle, ?brake, ?transmission⟩
  case connLost => rw [tick_connLost _ _ _ hrun, hsafe]; rfl
  case safeCnt => rw [tick_safeCnt _ _ _ hrun, hsafe]; rfl
  case firstDone => rw [tick_firstDone _ _ _ hrun, hsafe]; rfl
  case ch => rw [tick_ch _ _ _ hrun, hparse]
  case rxBuf => rw [tick_rxBuf _ _ _ hrun, hparse]
  case frameCnt => rw [tick_frameCnt _ _ _ hrun, hparse]
  case steering => exact BitVec.eq_of_toInt_eq ((htgt .steering).trans (clampedTarget_of_tgt_zero rfl))
  case throttle => exact BitVec.eq_of_toInt_eq ((htgt .throttle).trans (clampedTarget_of_tgt_zero rfl))
  case brake => exact (htgt .brake).trans (clampedTarget_enterSafeMode_brake _)
  case transmission => exact (htgt .transmission).trans (clampedTarget_eq_min_max _ _ _)

/-- Settles O49: the tick mixes the delivered channels, as MIX alone does on a state that holds them, and STEP clamps. -/
theorem validSignalMixes : Obligations.ValidSignalMixes := by
  intro s sw1 sw2 ch pad rest hidle hrun hcal hbuf hvalid
  have hparse := parse_of_leading_frame hbuf
  have hmix : receiveStages s =
      mix { s with rxBuf := rest, ch := ch, frameCnt := s.frameCnt + 1, connLost := false } := by
    rw [receiveStages_of_leading_frame hbuf, if_pos hvalid]
  refine ⟨_, _, exec_tick_of_idle sw1 sw2 hidle, rfl, ?connLost, ?safeCnt, ?firstDone, ?ch, ?rxBuf, fun a => ?targets⟩
  case connLost => rw [tick_connLost _ _ _ hrun, hmix, mix_frame]
  case safeCnt => rw [tick_safeCnt _ _ _ hrun, hmix, mix_frame]
  case firstDone => rw [tick_firstDone _ _ _ hrun, hmix, mix_frame]
  case ch => rw [tick_ch _ _ _ hrun, hparse]
  case rxBuf => rw [tick_rxBuf _ _ _ hrun, hparse]
  case targets =>
    have hsame : ((receiveStages s).axis a).tgt = ((mix { s with ch := ch }).axis a).tgt := by
      rw [hmix]
      apply mix_tgt_congr <;> rfl
    rw [tick_tgt_toInt _ _ _ hrun hcal, clampedTarget_congr hsame]
    exact clampedTarget_eq_min_max _ _ _

/-- Settles O50: with no valid window PARSE delivers nothing, so FAILSAFE and MIX leave the state and STEP alone clamps. -/
theorem silenceKeepsSignalState : Obligations.SilenceKeepsSignalState := by
  intro s sw1 sw2 hidle hrun hbad
  have hscan : scan s.rxBuf = (s.rxBuf.length - 31, false) := by
    have hfits (i : Nat) (hwindow : 32 ≤ (s.rxBuf.drop i).length) : i + 32 ≤ s.rxBuf.length := by
      rw [List.length_drop] at hwindow
      omega
    exact scan_none _ fun i hwindow => hbad i (hfits i hwindow)
  have hparse := parse_of_scan_none hscan
  have hsilent := receiveStages_silent (congrArg Prod.snd hscan)
  refine ⟨_, exec_tick_of_idle sw1 sw2 hidle, ?connLost, ?safeCnt, ?ch, ?frameCnt, ?firstDone, fun hcal a => ?targets⟩
  case connLost => rw [tick_connLost _ _ _ hrun, hsilent]
  case safeCnt => rw [tick_safeCnt _ _ _ hrun, hsilent]
  case ch => rw [tick_ch _ _ _ hrun, hparse]
  case frameCnt => rw [tick_frameCnt _ _ _ hrun, hparse]
  case firstDone => rw [tick_firstDone _ _ _ hrun, hsilent]
  case targets =>
    rw [tick_tgt_toInt _ _ _ hrun hcal, hsilent]
    exact clampedTarget_eq_min_max _ _ _

/-- Settles O21: the hook and the command are the same operation. -/
theorem safeModeTargets : Obligations.SafeModeTargets := by
  intro s
  exact ⟨enterSafeMode s, rfl, rfl, rfl, BitVec.toNat_add _ _, rfl, rfl, rfl, enterSafeMode_brake_tgt_toInt s, rfl⟩

/-- Settles O22: the second entry writes the targets the first one wrote. -/
theorem safeModeIdempotent : Obligations.SafeModeIdempotent := by
  intro s t u hfirst hsecond
  cases hfirst
  cases hsecond
  exact ⟨enterSafeMode_enterSafeMode s, enterSafeMode_safeCnt _⟩

/-- Settles O33: the four rows of the transition table, by whether a frame came, its channel 6, and the flag. -/
theorem failsafeTransitions : Obligations.FailsafeTransitions := by
  intro s
  refine ⟨rfl, fun hvalid => ?valid, fun hlost hflag => ?stillLost, fun hlost hflag => ⟨_, rfl, ?firstLost⟩⟩
  case valid => exact exec_failsafe_of_failsafe (by rw [failsafe_of_frame, if_pos hvalid])
  case stillLost =>
    exact exec_failsafe_of_failsafe (by rw [failsafe_of_frame, if_neg (Nat.not_le.mpr hlost), if_pos hflag])
  case firstLost =>
    have hentry : failsafe true s = (enterSafeMode { s with connLost := true }, false) := by
      rw [failsafe_of_frame, if_neg (Nat.not_le.mpr hlost), if_neg (by simp [hflag])]
    exact exec_failsafe_of_failsafe hentry

end Sys2Proof.Proofs
end

section
/-! PROOFS. The mixer (spec/42_mixer.md): the four formulas in plain integers, the one-shot steering pin, and the targets MIX
stores, each of which fits its 32 bits. -/

namespace Sys2Proof.Machine

/-! ### The formulas -/

/-- Saturation as the nearest integer of the signed 32-bit range (42_mixer.md R152). -/
theorem sat32_eq_max_min (x : Int) : sat32 x = max (-2147483648) (min 2147483647 x) := by
  unfold sat32 clamp
  omega

theorem steeringTarget_eq (ch0 limit : Nat) :
    steeringTarget ch0 limit =
      max (-2147483648) (min 2147483647 (Int.tdiv (((ch0 : Int) - 1500) * limit) 500)) := sat32_eq_max_min _

/-- The throttle's formula, split below its centre as the channel's own number is (42_mixer.md R154). -/
theorem throttleTarget_eq (ch1 limit : Nat) :
    throttleTarget ch1 limit =
      if ch1 ≤ 1500 then 0
      else max (-2147483648) (min 2147483647 (Int.tdiv (((ch1 : Int) - 1500) * limit) 500)) := by
  have hcentre : (ch1 : Int) > Config.chCenter ↔ ¬ ch1 ≤ 1500 := by
    unfold Config.chCenter
    omega
  rw [throttleTarget, ← sat32_eq_max_min]
  by_cases hlow : ch1 ≤ 1500
  · rw [if_neg fun hhigh => hcentre.mp hhigh hlow, if_pos hlow]
  · rw [if_pos (hcentre.mpr hlow), if_neg hlow]
    rfl

theorem brakeTarget_eq (ch2 limit : Nat) :
    brakeTarget ch2 limit =
      max (-2147483648) (min 2147483647 (Int.tdiv (((ch2 : Int) - 1000) * limit) 1000)) := sat32_eq_max_min _

theorem transmissionTarget_eq (ch5 reverse forward : Nat) :
    transmissionTarget ch5 reverse forward =
      if ch5 < 1200 then -(reverse : Int) else if 1800 < ch5 then (forward : Int) else 0 := rfl

/-! ### The stored targets -/

/-- The exact target MIX computes for an axis, from the channels and the active settings (42_mixer.md R153–R156); `mix_tgt`
ties it to MIX. -/
def mixTarget (s : State) : Axis → Int
  | .steering => steeringTarget s.ch[0].toNat (s.settings .steering).limit.toNat
  | .throttle => throttleTarget s.ch[1].toNat (s.settings .throttle).limit.toNat
  | .brake => brakeTarget s.ch[2].toNat (s.settings .brake).limit.toNat
  | .transmission => transmissionTarget s.ch[5].toNat (s.settings .transmission).limit.toNat s.active.fwd.toNat

/-- The pin changes no channel and no setting, so the targets are those of the state MIX starts from (42_mixer.md R151). -/
theorem mix_tgt (s : State) (a : Axis) : ((mix s).axis a).tgt = BitVec.ofInt 32 (mixTarget s a) := by
  rw [mix, steeringPin_eq]
  cases a <;> rfl

/-- Three formulas saturate; the transmission's answers a 31-bit limit, its negation, or 0. -/
theorem mixTarget_bounds (s : State) (a : Axis) : -2147483648 ≤ mixTarget s a ∧ mixTarget s a ≤ 2147483647 := by
  cases a with
  | steering => exact sat32_bounds _
  | throttle =>
    show _ ≤ throttleTarget _ _ ∧ throttleTarget _ _ ≤ _
    unfold throttleTarget
    split
    · exact sat32_bounds _
    · decide
  | brake => exact sat32_bounds _
  | transmission =>
    have hreverse := (s.settings .transmission).limit.isLt
    have hforward := s.active.fwd.isLt
    rw [mixTarget, transmissionTarget_eq]
    split
    · omega
    · split <;> omega

/-- The target MIX stores is the exact one: no bit of it is lost (42_mixer.md R152). -/
theorem mix_tgt_toInt (s : State) (a : Axis) : ((mix s).axis a).tgt.toInt = mixTarget s a := by
  obtain ⟨hlo, hhi⟩ := mixTarget_bounds s a
  rw [mix_tgt, toInt_ofInt32 hlo hhi]

/-! ### The steering pin -/

/-- The steering's position is zeroed by the first MIX alone (42_mixer.md R151). -/
theorem mix_steering_pos (s : State) :
    ((mix s).axis .steering).pos = if s.firstDone then (s.axis .steering).pos else 0 := by
  rw [mix, steeringPin_eq]
  rfl

/-- Every position after MIX: the steering's pinned where the pin is still due, the others as they were. -/
theorem mix_pos_eq (s : State) (a : Axis) :
    ((mix s).axis a).pos = if a = .steering ∧ s.firstDone = false then 0 else (s.axis a).pos := by
  by_cases hsteering : a = .steering
  · subst hsteering
    rw [mix_steering_pos]
    cases s.firstDone <;> simp
  · rw [mix_pos s hsteering, if_neg fun hpin => hsteering hpin.1]

end Sys2Proof.Machine

namespace Sys2Proof.Proofs

open Sys2Proof Sys2Proof.Machine

/-- Settles O34: the frame and the pin of MIX, and each stored target as its formula. -/
theorem mixComputesTargets : Obligations.MixComputesTargets := by
  intro s
  refine ⟨mix s, rfl, mix_frame s, mix_axis s, mix_pos_eq s, ?steering, ?throttle, ?brake, ?transmission⟩
  case steering => exact (mix_tgt_toInt s .steering).trans (steeringTarget_eq _ _)
  case throttle => exact (mix_tgt_toInt s .throttle).trans (throttleTarget_eq _ _)
  case brake => exact (mix_tgt_toInt s .brake).trans (brakeTarget_eq _ _)
  case transmission => exact (mix_tgt_toInt s .transmission).trans (transmissionTarget_eq _ _ _)

end Sys2Proof.Proofs
end

section
/-! PROOFS. The velocity profile (spec/43_profile.md): the ramp and the step interval in plain integers, the first PROFILE after
a COMMIT, and the axis that a tick leaves to the calibration. -/

namespace Sys2Proof.Machine

/-! ### Elapsed time and the ramp -/

/-- Elapsed time in plain numbers (00_scope.md R14). -/
theorem elapsed_eq_mod (now t : Time) : elapsed now t = (now.toNat + 2 ^ 64 - t.toNat) % 2 ^ 64 := by
  have ht := t.isLt
  rw [elapsed, BitVec.toNat_sub]
  congr 1
  omega

/-- Elapsed time is exact over an advance, across the wrap of TIME too (60_exceptions.md R284). -/
theorem elapsed_add_self (t n : Time) : elapsed (t + n) t = n.toNat := by
  rw [elapsed, add_sub_cancel_left]

/-- The ramp over the integers: its truncated subtraction never undershoots 0, as the target does not (43_profile.md R166). -/
theorem ramp_cast (v target k : Nat) :
    (ramp v target k : Int) =
      if v < target then min ((v : Int) + k) target
      else if target < v then max ((v : Int) - k) target
      else v := by
  unfold ramp
  split
  · omega
  · split <;> omega

/-! ### PROFILE on one axis -/

section
variable (P : Params) (c : AxisSettings) (now : Time) (x : AxisState)

theorem profileAxis_frame :
    profileAxis P c now x =
      { x with
        vel := (profileAxis P c now x).vel, lvel := now, inf := (profileAxis P c now x).inf
        ivl := (profileAxis P c now x).ivl } := by
  unfold profileAxis AxisState.setVelocity
  split <;> rfl

/-- The interval is infinite exactly at rest (43_profile.md R168). -/
theorem profileAxis_inf_iff : (profileAxis P c now x).inf = true ↔ (profileAxis P c now x).vel.toNat = 0 := by
  rw [profileAxis_inf, profileAxis_vel, decide_eq_true_iff]

theorem profileAxis_ivl_of_inf (hinf : (profileAxis P c now x).inf = true) : (profileAxis P c now x).ivl = 0 := by
  rw [profileAxis_inf_iff, profileAxis_vel] at hinf
  exact BitVec.eq_of_toNat_eq (by rw [profileAxis_ivl, hinf]; rfl)

/-- A moving axis has a velocity above 0 and the interval that follows from it (43_profile.md R168). -/
theorem profileAxis_ivl_of_moving (hinf : (profileAxis P c now x).inf = false) :
    0 < (profileAxis P c now x).vel.toNat ∧
      (profileAxis P c now x).ivl.toNat = stepInterval P (profileAxis P c now x).vel.toNat := by
  have hmoving : 0 < (profileAxis P c now x).vel.toNat := by
    refine Nat.pos_of_ne_zero fun hrest => ?_
    rw [(profileAxis_inf_iff P c now x).mpr hrest] at hinf
    cases hinf
  refine ⟨hmoving, ?_⟩
  rw [profileAxis_vel] at hmoving ⊢
  rw [profileAxis_ivl, if_pos hmoving]

/-- PROFILE moves the velocity by at most acceleration times elapsed time (43_profile.md R166). -/
theorem profileAxis_vel_near :
    (profileAxis P c now x).vel.toNat ≤ x.vel.toNat + c.accel.toNat * elapsed now x.lvel ∧
      x.vel.toNat ≤ (profileAxis P c now x).vel.toNat + c.accel.toNat * elapsed now x.lvel := by
  rw [profileAxis_vel]
  exact ramp_step _ _ _

end

/-- The interval of a velocity above 0 is its exact quotient rounded up, floored at the minimum (43_profile.md R168). -/
theorem stepInterval_least (P : Params) {v : Nat} (hv : 0 < v) :
    ∃ q : Nat, Config.intervalNumerator ≤ q * (v * P.ppr) ∧
      (∀ r : Nat, Config.intervalNumerator ≤ r * (v * P.ppr) → q ≤ r) ∧
      stepInterval P v = max P.minStepIntervalUs q := by
  have hdiv : 0 < v * P.ppr := Nat.mul_pos hv P.ppr_bounds.1
  exact ⟨_, ceilDiv_mul_ge hdiv, fun _ hr => ceilDiv_least hdiv hr, rfl⟩

/-! ### The axes after PROFILE and after COMMIT -/

@[simp] theorem profile_axis_same (P : Params) (a : Axis) (s : State) :
    (profile P a s).axis a = profileAxis P (s.settings a) s.time (s.axis a) := State.updAxis_axis_same _ _ _

theorem profile_axis_ne (P : Params) {a b : Axis} (s : State) (h : b ≠ a) : (profile P a s).axis b = s.axis b :=
  State.updAxis_axis_ne _ _ h

/-- COMMIT restarts the velocity time of every axis and nothing else of it (47_host_interface.md R257). -/
@[simp] theorem commit_axis (s : State) (a : Axis) : (commit s).axis a = (s.axis a).restartVelocityTime s.time :=
  PerAxis.get_map _ _ _

@[simp] theorem commit_settings (s : State) (a : Axis) : (commit s).settings a = s.shadow.axes.get a := rfl

theorem exec_advance_of_ne_zero {n : Time} (hn : n ≠ 0) (s : State) :
    exec (.advance n) s = .next { s with time := s.time + n } := if_neg hn

/-! ### The held axis -/

/-- All that a tick must leave of an axis held by the calibration (43_profile.md R172, 44_step.md R193). -/
structure AxisState.SameMotion (x y : AxisState) : Prop where
  vel : y.vel = x.vel
  inf : y.inf = x.inf
  ivl : y.ivl = x.ivl
  lvel : y.lvel = x.lvel
  lstep : y.lstep = x.lstep
  pos : y.pos = x.pos

theorem AxisState.SameMotion.refl (x : AxisState) : x.SameMotion x := ⟨rfl, rfl, rfl, rfl, rfl, rfl⟩

theorem AxisState.SameMotion.trans {x y z : AxisState} (hxy : x.SameMotion y) (hyz : y.SameMotion z) : x.SameMotion z :=
  ⟨hyz.vel.trans hxy.vel, hyz.inf.trans hxy.inf, hyz.ivl.trans hxy.ivl, hyz.lvel.trans hxy.lvel,
    hyz.lstep.trans hxy.lstep, hyz.pos.trans hxy.pos⟩

/-- A calibration pulse writes the outputs and their times alone (45_calibration.md R213). -/
theorem AxisState.sameMotion_emitPulse (P : Params) (now : Time) (d : Bool) (x : AxisState) :
    x.SameMotion (x.emitPulse P now d) := ⟨rfl, rfl, rfl, rfl, rfl, rfl⟩

/-- The receive stages write no more than the target of an axis that is not the steering, the one that MIX pins
(42_mixer.md R151). -/
theorem receiveStages_sameMotion (s : State) {a : Axis} (ha : a ≠ .steering) :
    (s.axis a).SameMotion ((receiveStages s).axis a) := by
  have hpos := receiveStages_pos s ha
  rw [receiveStages_axis] at hpos ⊢
  exact ⟨rfl, rfl, rfl, rfl, rfl, hpos⟩

/-- An axis that CAL_STEP leaves held was not finished by it: it pulsed, or was left (45_calibration.md R212, R213). -/
theorem calStep_sameMotion (P : Params) (sw1 sw2 : Bool) (s : State) {a : Axis}
    (hheld : (calStep P sw1 sw2 s).held a = true) : (s.axis a).SameMotion ((calStep P sw1 sw2 s).axis a) := by
  rcases calStep_axis P sw1 sw2 s a with hsame | ⟨-, hreleased, -⟩ | ⟨-, -, d, hpulse⟩
  · rw [hsame]
    exact .refl _
  · rw [hreleased] at hheld
    cases hheld
  · rw [hpulse]
    exact AxisState.sameMotion_emitPulse P s.time d _

/-- The steering is never held (10_state.md R50). -/
theorem State.ne_steering_of_held {s : State} {a : Axis} (h : s.held a = true) : a ≠ .steering := by
  rintro rfl
  simp [State.held_iff] at h

/-- A stopped tick does nothing; a running one skips the motion of the axis that CAL_STEP leaves held
(46_control_loop.md R228, R231). -/
theorem tick_sameMotion_of_held (P : Params) (sw1 sw2 : Bool) (s : State) {a : Axis}
    (hheld : (tick P sw1 sw2 s).held a = true) : (s.axis a).SameMotion ((tick P sw1 sw2 s).axis a) := by
  cases hrun : s.run with
  | false =>
    have hstopped : tick P sw1 sw2 s = s := by simp [tick, hrun]
    rw [hstopped]
    exact .refl _
  | true =>
    have hsteering := State.ne_steering_of_held hheld
    rw [tick_held P sw1 sw2 hrun] at hheld
    rw [tick_axis P sw1 sw2 hrun, if_pos hheld]
    exact (receiveStages_sameMotion s hsteering).trans (calStep_sameMotion P sw1 sw2 _ hheld)

end Sys2Proof.Machine

namespace Sys2Proof.Proofs

open Sys2Proof Sys2Proof.Machine

/-- Settles O35: the ramp over the integers, and the interval as the least one that is long enough. -/
theorem profileRampsVelocity : Obligations.ProfileRampsVelocity := by
  intro s a
  refine ⟨profile Config.params a s, rfl, rfl, fun _ hb => profile_axis_ne _ s hb, ?_⟩
  simp only [profile_axis_same]
  refine ⟨profileAxis_frame _ _ _ _, ?ramp, profileAxis_inf_iff _ _ _ _, profileAxis_ivl_of_inf _ _ _ _, ?interval⟩
  case ramp =>
    rw [profileAxis_vel, rampedVelocity, ramp_cast, elapsed_eq_mod]
    rfl
  case interval =>
    intro hinf
    obtain ⟨hmoving, hivl⟩ := profileAxis_ivl_of_moving _ _ _ _ hinf
    rw [hivl]
    exact stepInterval_least Config.params hmoving

/-- Settles O36: COMMIT keeps the velocity and restarts its time, so the elapsed time of the PROFILE is the ADVANCE alone. -/
theorem replacementKeepsVelocity : Obligations.ReplacementKeepsVelocity := by
  intro s a n hn
  refine ⟨_, _, _, rfl, exec_advance_of_ne_zero hn _, rfl, ?_⟩
  have hstart : State.axis { commit s with time := (commit s).time + n } a = (s.axis a).restartVelocityTime s.time :=
    commit_axis s a
  have hnear := profileAxis_vel_near Config.params (s.shadow.axes.get a) (s.time + n)
    ((s.axis a).restartVelocityTime s.time)
  rw [AxisState.restartVelocityTime_lvel, elapsed_add_self, AxisState.restartVelocityTime_vel] at hnear
  rw [profile_axis_same, hstart]
  exact hnear

/-- Settles O44: no stage of the tick writes the motion of the axis that is held when it ends. -/
theorem heldAxisIsSkipped : Obligations.HeldAxisIsSkipped := by
  intro s sw1 sw2 a hidle
  refine ⟨_, exec_tick_of_idle sw1 sw2 hidle, fun hheld => ?_⟩
  obtain ⟨hvel, hinf, hivl, hlvel, hlstep, hpos⟩ := tick_sameMotion_of_held Config.params sw1 sw2 s hheld
  exact ⟨hvel, hinf, hivl, hlvel, hlstep, hpos⟩

end Sys2Proof.Proofs
end

section
/-! PROOFS. The step stage (spec/44_step.md): STEP in plain integers with its travel range, the edges of a pulse and the strobe
between them, and the targets and the settings after a whole tick. -/

namespace Sys2Proof.Machine

/-! ### The travel range, the direction and the due pulse -/

/-- `HI[a]` in the settings' own numbers (10_state.md R49). -/
theorem Settings.hi_eq (c : Settings) (a : Axis) :
    c.hi a = if a = .transmission then (c.fwd.toNat : Int) else (c.axes.get a).limit.toNat := by cases a <;> rfl

/-- The polarity inverts the sense of the throttle and the brake; a position error of 0 has no sense (44_step.md R185). -/
theorem directionLevel_eq {delta : Int} (h : delta ≠ 0) (a : Axis) :
    directionLevel a delta = if a = .throttle ∨ a = .brake then decide (delta < 0) else decide (0 < delta) := by
  have hflip : (!decide (0 < delta)) = decide (delta < 0) := by
    rw [← decide_not, decide_eq_decide]
    omega
  cases a <;> simp [directionLevel, polarity, hflip]

/-- When a pulse is due, in plain numbers (44_step.md R188). -/
theorem pulseDue_iff (now : Time) (x : AxisState) :
    pulseDue now x = true ↔
      x.inf = false ∧ x.ivl.toNat ≤ (now.toNat + 2 ^ 64 - x.lstep.toNat) % 2 ^ 64 := by
  simp [pulseDue, elapsed_eq_mod]

theorem pulseDue_eq_false_iff (now : Time) (x : AxisState) :
    pulseDue now x = false ↔
      x.inf = true ∨ (now.toNat + 2 ^ 64 - x.lstep.toNat) % 2 ^ 64 < x.ivl.toNat := by
  rw [← Bool.not_eq_true, pulseDue_iff, not_and_or, Bool.not_eq_false, Nat.not_le]

/-- Outside the dead band there is an error to step away, since `DEAD_BAND` is at least 1 (44_step.md R184). -/
theorem positionError_ne_zero {P : Params} {c : Settings} {a : Axis} {x : AxisState}
    (h : P.deadBand ≤ (positionError c a x).natAbs) : positionError c a x ≠ 0 :=
  Int.natAbs_pos.mp (P.deadBand_pos.trans h)

/-! ### STEP on one axis -/

section
variable (P : Params) (c : Settings) (a : Axis) (now : Time) (x : AxisState)

/-- The error STEP works with is that of the target it stores (44_step.md R182, R183). -/
theorem stepAxis_positionError :
    (stepAxis P c a now x).tgt.toInt - x.pos.toInt = positionError c a x := by
  rw [stepAxis_tgt_toInt, positionError]

variable {P c a x}

/-- Inside the dead band the axis halts and keeps its direction (44_step.md R184). -/
theorem stepAxis_of_inside (h : (positionError c a x).natAbs < P.deadBand) :
    stepAxis P c a now x =
      { x with tgt := (stepAxis P c a now x).tgt, vel := 0, inf := true, ivl := 0 } := by
  rw [stepAxis, if_pos h]
  rfl

/-- Outside the dead band with no pulse due STEP writes the direction alone (44_step.md R185). -/
theorem stepAxis_of_waiting (h : P.deadBand ≤ (positionError c a x).natAbs) (hdue : pulseDue now x = false) :
    stepAxis P c a now x =
      { x with tgt := (stepAxis P c a now x).tgt, dir := directionLevel a (positionError c a x) } := by
  rcases stepAxis_cases P c a now x with ⟨hnear, -⟩ | ⟨-, hyes, -⟩ | ⟨-, -, hs⟩
  · omega
  · simp [hdue] at hyes
  · rw [hs]
    rfl

/-- Outside the dead band with a pulse due one starts, by the edges of `EmitPulse`, and the position is the next one
(44_step.md R186, R190). -/
theorem stepAxis_of_due (h : P.deadBand ≤ (positionError c a x).natAbs) (hdue : pulseDue now x = true) :
    stepAxis P c a now x =
      { x.emitPulse P now (directionLevel a (positionError c a x)) with
        tgt := (stepAxis P c a now x).tgt
        pos := x.pos + BitVec.ofInt 32 (positionError c a x).sign
        lstep := now } := by
  rcases stepAxis_cases P c a now x with ⟨hnear, -⟩ | ⟨-, -, hs⟩ | ⟨-, hno, -⟩
  · omega
  · rw [hs]
    rfl
  · simp [hdue] at hno

/-- The step of a due pulse, in plain integers (44_step.md R186, R189). -/
theorem stepAxis_pos_toInt_of_due (h : P.deadBand ≤ (positionError c a x).natAbs) (hdue : pulseDue now x = true) :
    (stepAxis P c a now x).pos.toInt = x.pos.toInt + if 0 < positionError c a x then 1 else -1 := by
  have herror := positionError_ne_zero h
  rw [stepAxis_of_due now h hdue]
  refine (stepped_pos_toInt P c a x h).trans ?_
  split
  · rw [Int.sign_eq_one_of_pos ‹_›]
  · rw [Int.sign_eq_neg_one_of_neg (by omega)]

variable (P c a x)

/-- STEP leaves the position, or moves it by one toward the clamped target (44_step.md R186, R187). -/
theorem stepAxis_pos_cases :
    (stepAxis P c a now x).pos = x.pos ∨
    (0 < positionError c a x ∧ (stepAxis P c a now x).pos.toInt = x.pos.toInt + 1) ∨
    (positionError c a x < 0 ∧ (stepAxis P c a now x).pos.toInt = x.pos.toInt - 1) := by
  by_cases hnear : (positionError c a x).natAbs < P.deadBand
  · exact .inl (by rw [stepAxis_of_inside now hnear])
  · have hfar := Nat.le_of_not_lt hnear
    cases hdue : pulseDue now x
    · exact .inl (by rw [stepAxis_of_waiting now hfar hdue])
    · have hmove := stepAxis_pos_toInt_of_due now hfar hdue
      split at hmove
      · next hup => exact .inr (.inl ⟨hup, hmove⟩)
      · next hdown =>
        have herror := positionError_ne_zero hfar
        exact .inr (.inr ⟨by omega, hmove⟩)

/-- A step ends no further out than the clamped target, and the clamped target is in the range (44_step.md R189). -/
theorem stepAxis_pos_in_range :
    min x.pos.toInt (c.lo a) ≤ (stepAxis P c a now x).pos.toInt ∧
    (stepAxis P c a now x).pos.toInt ≤ max x.pos.toInt (c.hi a) := by
  obtain ⟨hlo, hhi⟩ := clampedTarget_bounds c a x
  have herror : positionError c a x = clampedTarget c a x - x.pos.toInt := rfl
  rcases stepAxis_pos_cases P c a now x with hkept | ⟨hup, hmove⟩ | ⟨hdown, hmove⟩
  · rw [hkept]
    exact ⟨min_le_left _ _, le_max_left _ _⟩
  · exact ⟨by omega, by omega⟩
  · exact ⟨by omega, by omega⟩

/-- STEP moves the position by at most one (44_step.md R187). -/
theorem stepAxis_pos_near : ((stepAxis P c a now x).pos.toInt - x.pos.toInt).natAbs ≤ 1 := by
  rcases stepAxis_pos_cases P c a now x with hkept | ⟨-, hmove⟩ | ⟨-, hmove⟩
  · simp [hkept]
  · omega
  · omega

/-- A position that STEP moves is one nearer to the stored target (44_step.md R186). -/
theorem stepAxis_moves_toward_target (hmoved : (stepAxis P c a now x).pos ≠ x.pos) :
    ((stepAxis P c a now x).tgt.toInt - (stepAxis P c a now x).pos.toInt).natAbs + 1 =
      ((stepAxis P c a now x).tgt.toInt - x.pos.toInt).natAbs := by
  have herror := stepAxis_positionError P c a now x
  rcases stepAxis_pos_cases P c a now x with hkept | ⟨hup, hmove⟩ | ⟨hdown, hmove⟩
  · exact absurd hkept hmoved
  · omega
  · omega

end

/-! ### The axes after STEP and after EmitPulse -/

@[simp] theorem stepStage_axis_same (P : Params) (a : Axis) (s : State) :
    (stepStage P a s).axis a = stepAxis P s.active a s.time (s.axis a) := State.updAxis_axis_same _ _ _

theorem stepStage_axis_ne (P : Params) {a b : Axis} (s : State) (h : b ≠ a) : (stepStage P a s).axis b = s.axis b :=
  State.updAxis_axis_ne _ _ h

@[simp] theorem State.emitPulse_axis_same (P : Params) (a : Axis) (d : Bool) (s : State) :
    (s.emitPulse P a d).axis a = (s.axis a).emitPulse P s.time d := State.updAxis_axis_same _ _ _

theorem State.emitPulse_axis_ne (P : Params) {a b : Axis} (d : Bool) (s : State) (h : b ≠ a) :
    (s.emitPulse P a d).axis b = s.axis b := State.updAxis_axis_ne _ _ h

/-! ### The edges of a pulse -/

section
variable (P : Params) (now : Time) (d : Bool) (x : AxisState)

/-- The rising edge (44_step.md R190). -/
theorem AxisState.emitPulse_pstart_toNat :
    (x.emitPulse P now d).pstart.toNat = (now.toNat + P.dirSetupUs.toNat) % 2 ^ 64 := by
  rw [AxisState.emitPulse_pstart, BitVec.toNat_add, BitVec.toNat_setWidth_of_le (by decide)]

/-- The falling edge, a pulse width after the rising one (44_step.md R190). -/
theorem AxisState.emitPulse_pend_toNat :
    (x.emitPulse P now d).pend.toNat = (now.toNat + P.dirSetupUs.toNat + P.pulseWidthUs) % 2 ^ 64 := by
  rw [AxisState.emitPulse_pend, ← AxisState.emitPulse_pstart (x := x) (d := d), BitVec.toNat_add,
    AxisState.emitPulse_pstart_toNat, BitVec.toNat_ofNat, ← Nat.add_mod]

/-- Short of the wrap of TIME the strobe is high exactly between the two edges (44_step.md R191). -/
theorem AxisState.emitPulse_stepLevel_iff (hwrap : now.toNat + P.dirSetupUs.toNat + P.pulseWidthUs < 2 ^ 64) (T : Time) :
    (x.emitPulse P now d).stepLevel T = true ↔
      now.toNat + P.dirSetupUs.toNat ≤ T.toNat ∧ T.toNat < now.toNat + P.dirSetupUs.toNat + P.pulseWidthUs := by
  rw [AxisState.stepLevel_iff, AxisState.emitPulse_pstart_toNat, AxisState.emitPulse_pend_toNat, Nat.mod_eq_of_lt hwrap,
    Nat.mod_eq_of_lt (Nat.lt_of_le_of_lt (Nat.le_add_right _ _) hwrap)]

end

/-! ### The targets and the settings after a tick -/

section
variable (P : Params) (sw1 sw2 : Bool) {s : State} (hrun : s.run = true)
include hrun

theorem tick_shadow : (tick P sw1 sw2 s).shadow = s.shadow := by rw [tick_frame P sw1 sw2 hrun]
theorem tick_heldTicks : (tick P sw1 sw2 s).heldTicks = s.heldTicks := by rw [tick_frame P sw1 sw2 hrun]
theorem tick_inputs : (tick P sw1 sw2 s).inputs = s.inputs := by rw [tick_frame P sw1 sw2 hrun]
theorem tick_result : (tick P sw1 sw2 s).result = s.result := by rw [tick_frame P sw1 sw2 hrun]

/-- An axis that the tick does not leave held ran STEP in it, whatever the calibration did before (44_step.md R182, R193). -/
theorem tick_tgt_bounds_of_not_held {a : Axis} (hfree : (tick P sw1 sw2 s).held a = false) :
    s.active.lo a ≤ ((tick P sw1 sw2 s).axis a).tgt.toInt ∧ ((tick P sw1 sw2 s).axis a).tgt.toInt ≤ s.active.hi a := by
  rw [tick_held P sw1 sw2 hrun] at hfree
  rw [tick_axis P sw1 sw2 hrun, hfree, if_neg Bool.false_ne_true, stepAxis_tgt_toInt]
  exact clampedTarget_bounds _ _ _

end

end Sys2Proof.Machine

namespace Sys2Proof.Proofs

open Sys2Proof Sys2Proof.Machine

/-- Settles O38: the three branches of STEP — inside the dead band, a pulse due, no pulse due — with the error of the stored
target. -/
theorem stepMovesAxis : Obligations.StepMovesAxis := by
  intro s a
  refine ⟨stepStage Config.params a s, rfl, rfl, fun _ hb => stepStage_axis_ne _ s hb, ?_⟩
  simp only [stepStage_axis_same, stepAxis_positionError]
  refine ⟨?target, stepAxis_of_inside s.time, fun hfar hinf hivl => ?due, fun hfar hwait => ?waiting⟩
  case target => exact (stepAxis_tgt_toInt _ _ _ _ _).trans (clampedTarget_eq_min_max _ _ _)
  case due =>
    have hdue := (pulseDue_iff s.time (s.axis a)).mpr ⟨hinf, hivl⟩
    refine ⟨stepAxis_pos_toInt_of_due s.time hfar hdue, ?_⟩
    rw [← directionLevel_eq (positionError_ne_zero hfar), stepAxis_of_due s.time hfar hdue]
    rfl
  case waiting =>
    have hdue := (pulseDue_eq_false_iff s.time (s.axis a)).mpr hwait
    rw [← directionLevel_eq (positionError_ne_zero hfar)]
    exact stepAxis_of_waiting s.time hfar hdue

/-- Settles O39: the clamp bounds the target of this step, and a step ends between the old position and that target. -/
theorem stepStaysInTravelRange : Obligations.StepStaysInTravelRange := by
  intro s t a hstep
  cases hstep
  have hrange := stepAxis_pos_in_range Config.params s.active a s.time (s.axis a)
  rw [Settings.hi_eq] at hrange
  obtain ⟨hlow, hhigh⟩ := hrange
  simp only [stepStage_axis_same]
  exact ⟨hlow, hhigh, stepAxis_pos_near _ _ _ _ _, stepAxis_moves_toward_target _ _ _ _ _⟩

/-- Settles O40: the two edges of the pulse, and the strobe between them. -/
theorem emitPulseSchedulesStrobe : Obligations.EmitPulseSchedulesStrobe := by
  intro s a d
  refine ⟨s.emitPulse Config.params a d, rfl, rfl, fun _ hb => State.emitPulse_axis_ne _ d s hb, ?_⟩
  rw [State.emitPulse_axis_same]
  exact ⟨rfl, AxisState.emitPulse_pstart_toNat _ _ _ _, AxisState.emitPulse_pend_toNat _ _ _ _,
    AxisState.emitPulse_stepLevel_iff _ _ _ _⟩

/-- Settles O51: STEP is the last stage to write a target, and no stage writes the settings, TIME or a sticky flag. -/
theorem tickClampsTargets : Obligations.TickClampsTargets := by
  intro s sw1 sw2 hidle hrun
  refine ⟨_, exec_tick_of_idle sw1 sw2 hidle, fun a hfree => ?targets, tick_shadow _ _ _ hrun, tick_active _ _ _ hrun,
    tick_time _ _ _ hrun, tick_run _ _ _ hrun, tick_rxOvf _ _ _ hrun, tick_linkFail _ _ _ hrun, tick_badCmd _ _ _ hrun,
    tick_heldTicks _ _ _ hrun, tick_inputs _ _ _ hrun, tick_result _ _ _ hrun⟩
  case targets =>
    have hbounds := tick_tgt_bounds_of_not_held Config.params sw1 sw2 hrun hfree
    rw [Settings.hi_eq] at hbounds
    exact hbounds

end Sys2Proof.Proofs
end

section
/-! PROOFS. The calibration sequencer (spec/45_calibration.md): one equation for each branch of CAL_STEP, the axes and the frame
of an axis that finishes, and the pulse of a calibration step. -/

namespace Sys2Proof.Machine

/-! ### CAL_STEP by phase -/

theorem exec_calStep_of_eq {sw1 sw2 : Bool} {s t : State} (h : calStep Config.params sw1 sw2 s = t) :
    exec (.calStep sw1 sw2) s = .next t := congrArg Host.Outcome.next h

theorem calStep_of_seeking (P : Params) (sw1 sw2 : Bool) {s : State} (hactive : s.calActive = true)
    (hphase : s.calPhase = .seeking) : calStep P sw1 sw2 s = calSeek P sw1 sw2 s := by
  rw [calStep, if_pos hactive, hphase]

theorem calStep_of_backingOff (P : Params) (sw1 sw2 : Bool) {s : State} (hactive : s.calActive = true)
    (hphase : s.calPhase = .backingOff) : calStep P sw1 sw2 s = calBackOff P s := by
  rw [calStep, if_pos hactive, hphase]

/-- The axes that are homed are the ones of inverted polarity, so toward the switch is a high level (R205, 44_step.md R185). -/
@[simp] theorem polarity_calAxis (c : CalAxis) : polarity c.axis = true := by cases c <;> rfl

theorem calStepDue_iff {P : Params} {s : State} :
    calStepDue P s = true ↔ P.calStepPeriodUs.toNat ≤ elapsed s.time s.calLast := decide_eq_true_iff

/-! ### The branches of a phase -/

section
variable {P : Params} {sw1 sw2 : Bool} {s : State}

theorem calSeek_of_triggered (htrigger : triggered sw1 sw2 s.calAxis = true) :
    calSeek P sw1 sw2 s = { s with calPhase := .backingOff, calTtrig := s.time, calCount := 0 } := if_pos htrigger

theorem calSeek_of_budget_spent (htrigger : triggered sw1 sw2 s.calAxis = false)
    (hspent : P.calStepBudget.toNat ≤ s.calCount.toNat) : calSeek P sw1 sw2 s = calFinish .fail s := by
  rw [calSeek, htrigger, if_neg Bool.false_ne_true, if_pos hspent]

theorem calSeek_of_due (htrigger : triggered sw1 sw2 s.calAxis = false)
    (hbudget : s.calCount.toNat < P.calStepBudget.toNat)
    (hdue : P.calStepPeriodUs.toNat ≤ elapsed s.time s.calLast) : calSeek P sw1 sw2 s = calPulse P true s := by
  rw [calSeek, htrigger, if_neg Bool.false_ne_true, if_neg (Nat.not_le.mpr hbudget), if_pos (calStepDue_iff.mpr hdue),
    polarity_calAxis]

theorem calSeek_of_waiting (htrigger : triggered sw1 sw2 s.calAxis = false)
    (hbudget : s.calCount.toNat < P.calStepBudget.toNat)
    (hwait : elapsed s.time s.calLast < P.calStepPeriodUs.toNat) : calSeek P sw1 sw2 s = s := by
  rw [calSeek, htrigger, if_neg Bool.false_ne_true, if_neg (Nat.not_le.mpr hbudget),
    if_neg (mt calStepDue_iff.mp (Nat.not_le.mpr hwait))]

theorem calBackOff_of_pause (hpause : elapsed s.time s.calTtrig < P.calDebounceUs.toNat) : calBackOff P s = s :=
  if_pos hpause

theorem calBackOff_of_steps_made (hpause : P.calDebounceUs.toNat ≤ elapsed s.time s.calTtrig)
    (hmade : P.calBackoffSteps.toNat ≤ s.calCount.toNat) :
    calBackOff P s = calFinish .ok (s.updAxis s.calAxis.axis homeAxis) := by
  rw [calBackOff, if_neg (Nat.not_lt.mpr hpause), if_pos hmade]

theorem calBackOff_of_due (hpause : P.calDebounceUs.toNat ≤ elapsed s.time s.calTtrig)
    (hcount : s.calCount.toNat < P.calBackoffSteps.toNat)
    (hdue : P.calStepPeriodUs.toNat ≤ elapsed s.time s.calLast) : calBackOff P s = calPulse P false s := by
  rw [calBackOff, if_neg (Nat.not_lt.mpr hpause), if_neg (Nat.not_le.mpr hcount), if_pos (calStepDue_iff.mpr hdue),
    polarity_calAxis, Bool.not_true]

theorem calBackOff_of_waiting (hpause : P.calDebounceUs.toNat ≤ elapsed s.time s.calTtrig)
    (hcount : s.calCount.toNat < P.calBackoffSteps.toNat)
    (hwait : elapsed s.time s.calLast < P.calStepPeriodUs.toNat) : calBackOff P s = s := by
  rw [calBackOff, if_neg (Nat.not_lt.mpr hpause), if_neg (Nat.not_le.mpr hcount),
    if_neg (mt calStepDue_iff.mp (Nat.not_le.mpr hwait))]

end

/-! ### The axes of a finish -/

section
variable {s : State} {c : CalAxis}

/-- A finish only resets the velocity reference of the axis that is released (R211). -/
theorem calFinish_axis (r : CalRes) (hc : s.calAxis = c) (a : Axis) :
    (calFinish r s).axis a = if a = c.axis then (s.axis a).restartVelocityTime s.time else s.axis a := by
  cases c with
  | throttle =>
    rw [calFinish_throttle r hc]
    exact PerAxis.get_upd _ _ _ _
  | brake =>
    rw [calFinish_brake r hc]
    exact PerAxis.get_upd _ _ _ _

/-- DONE homes the axis before it is released, and touches no other (R209, R211). -/
theorem calFinish_home_axis (r : CalRes) (hc : s.calAxis = c) (a : Axis) :
    (calFinish r (s.updAxis s.calAxis.axis homeAxis)).axis a =
      if a = c.axis then (homeAxis (s.axis a)).restartVelocityTime s.time else s.axis a := by
  rw [calFinish_axis (s := s.updAxis s.calAxis.axis homeAxis) r hc, hc]
  by_cases ha : a = c.axis
  · rw [if_pos ha, if_pos ha, ha, State.updAxis_axis_same, State.updAxis_time]
  · rw [if_neg ha, if_neg ha, State.updAxis_axis_ne _ _ ha]

end

/-! ### A calibration step is an EmitPulse -/

/-- A calibration step is EmitPulse on the axis being homed, counted and timed (R203, R215). -/
theorem exec_calStep_of_pulse {sw1 sw2 d : Bool} {s : State}
    (hpulse : calStep Config.params sw1 sw2 s = calPulse Config.params d s) :
    ∃ t, exec (.emitPulse s.calAxis.axis d) s = .next t ∧
      exec (.calStep sw1 sw2) s = .next { t with calCount := s.calCount + 1, calLast := s.time } :=
  ⟨s.emitPulse Config.params s.calAxis.axis d, rfl, exec_calStep_of_eq hpulse⟩

end Sys2Proof.Machine

namespace Sys2Proof.Proofs

open Sys2Proof Sys2Proof.Machine

/-- Settles O41: the branches of SEEKING in the order in which CAL_STEP tests them. -/
theorem calibrationSeeks : Obligations.CalibrationSeeks := by
  intro s sw1 sw2 hactive hphase level period
  have htrigger : triggered sw1 sw2 s.calAxis = !level := by
    unfold level
    cases s.calAxis <;> rfl
  have hperiod : period = elapsed s.time s.calLast := (elapsed_eq_mod _ _).symm
  have hseek := calStep_of_seeking Config.params sw1 sw2 hactive hphase
  rw [hperiod]
  refine ⟨fun hlevel => ?triggers, fun hlevel hspent hc => ?throttleFails, fun hlevel hspent hc => ?brakeFails,
    fun hlevel hbudget hdue => ?due, fun hlevel hbudget hwait => ?waiting⟩
  all_goals rw [hlevel] at htrigger
  case triggers => exact exec_calStep_of_eq (hseek.trans (calSeek_of_triggered htrigger))
  case throttleFails =>
    exact ⟨_, exec_calStep_of_eq (hseek.trans (calSeek_of_budget_spent htrigger hspent)),
      by rw [calFinish_throttle _ hc], calFinish_axis _ hc⟩
  case brakeFails =>
    exact ⟨_, exec_calStep_of_eq (hseek.trans (calSeek_of_budget_spent htrigger hspent)),
      by rw [calFinish_brake _ hc], calFinish_axis _ hc⟩
  case due => exact exec_calStep_of_pulse (hseek.trans (calSeek_of_due htrigger hbudget hdue))
  case waiting => exact exec_calStep_of_eq (hseek.trans (calSeek_of_waiting htrigger hbudget hwait))

/-- Settles O42: the branches of BACKING_OFF in the order in which CAL_STEP tests them. -/
theorem calibrationBacksOff : Obligations.CalibrationBacksOff := by
  intro s sw1 sw2 hactive hphase pause period
  have hpause : pause = elapsed s.time s.calTtrig := (elapsed_eq_mod _ _).symm
  have hperiod : period = elapsed s.time s.calLast := (elapsed_eq_mod _ _).symm
  have hback := calStep_of_backingOff Config.params sw1 sw2 hactive hphase
  rw [hpause, hperiod]
  refine ⟨fun hpausing => ?pausing, fun hover hmade hc => ?throttleDone, fun hover hmade hc => ?brakeDone,
    fun hover hcount hdue => ?due, fun hover hcount hwait => ?waiting⟩
  case pausing => exact exec_calStep_of_eq (hback.trans (calBackOff_of_pause hpausing))
  case throttleDone =>
    exact ⟨_, exec_calStep_of_eq (hback.trans (calBackOff_of_steps_made hover hmade)),
      by rw [calFinish_throttle (s := s.updAxis _ homeAxis) _ hc]; rfl, calFinish_home_axis _ hc⟩
  case brakeDone =>
    exact ⟨_, exec_calStep_of_eq (hback.trans (calBackOff_of_steps_made hover hmade)),
      by rw [calFinish_brake (s := s.updAxis _ homeAxis) _ hc]; rfl, calFinish_home_axis _ hc⟩
  case due => exact exec_calStep_of_pulse (hback.trans (calBackOff_of_due hover hcount hdue))
  case waiting => exact exec_calStep_of_eq (hback.trans (calBackOff_of_waiting hover hcount hwait))

/-- Settles O43: the sequencer's outer test is of its activity alone. -/
theorem calibrationInactive : Obligations.CalibrationInactive := fun _ sw1 sw2 hidle =>
  exec_calStep_of_eq (calStep_inactive Config.params sw1 sw2 hidle)

end Sys2Proof.Proofs
end

section
/-! PROOFS. The control loop (spec/46_control_loop.md): which tick is held, has no effect or runs its stages, in which order
the stages run, the held TICK's admission once time has passed, and what an event leaves of the outputs during a pulse. -/

namespace Sys2Proof.Machine

/-! ### The busy flag, and when a tick is held, without effect or admitted -/

theorem exec_tick_of_busy {s : State} (sw1 sw2 : Bool) (hbusy : s.pulseBusy = true) :
    exec (.tick sw1 sw2) s = .next { s with heldTicks := s.heldTicks + 1 } := if_pos hbusy

theorem tick_stopped (P : Params) (sw1 sw2 : Bool) {s : State} (hstopped : s.run = false) : tick P sw1 sw2 s = s := by
  rw [tick, hstopped, if_neg Bool.false_ne_true]

/-- `STATUS.PULSE_BUSY` as the host reads it (10_state.md R53). -/
theorem regValue_status_pulseBusy (s : State) : (regValue s 0x02).getLsbD 4 = s.pulseBusy := by
  rw [regValue_status, statusWord_getLsbD]
  simp

/-- A held TICK is admitted, before any requested input, in the first state without a pulse (46_control_loop.md R229;
log 3). -/
theorem step_of_admissible {s : State} {n : Nat} (hidle : s.pulseBusy = false) (hheld : s.heldTicks = n + 1) :
    step s = exec (admitHeld s n).1 (admitHeld s n).2 := by
  have hfetch : fetch s = some (.ok (admitHeld s n).1, (admitHeld s n).2) := by
    rcases fetch_cases s with ⟨-, m, hm, hf⟩ | ⟨hno, -⟩ | ⟨hno, -⟩
    · obtain rfl : m = n := by omega
      exact hf
    · exact absurd ⟨hidle, n, hheld⟩ (not_admissible hno)
    · exact absurd ⟨hidle, n, hheld⟩ (not_admissible hno)
  simp only [step, hfetch]

/-! ### The stages run by themselves -/

/-- The state with `b` as the bit that a stage run by itself answers (log 6). -/
def State.answer (s : State) (b : Bool) : State := { s with result := (BitVec.ofBool b).setWidth 32 }

@[simp] theorem State.answer_result_eq_one (s : State) (b : Bool) : (s.answer b).result = 1 ↔ b = true := by
  cases b <;> simp [State.answer]

theorem exec_parse_eq (s : State) : exec .parse s = .next ((parse s).1.answer (parse s).2) := rfl

/-- FAILSAFE does not read the bit that PARSE answered but takes it as its operand. -/
theorem exec_failsafe_answer (s : State) (b frameOk : Bool) :
    exec (.failsafe frameOk) (s.answer b) = .next ((failsafe frameOk s).1.answer (failsafe frameOk s).2) := by
  rw [State.answer, exec_failsafe_of_failsafe (failsafe_result frameOk s _)]
  rfl

theorem exec_mix_answer (s : State) (b : Bool) : exec .mix (s.answer b) = .next ((mix s).answer b) :=
  congrArg Host.Outcome.next (mix_result s _)

/-- PARSE, FAILSAFE and MIX run one after another, each on the state the one before it left, are the receive stages but for
the bit answered last (46_control_loop.md R231; log 6). -/
theorem receiveStages_runs (s : State) :
    ∃ (s₁ s₂ : State) (b : Bool),
      exec .parse s = .next s₁ ∧
      exec (.failsafe (decide (s₁.result = 1))) s₁ = .next s₂ ∧
      (if s₁.result = 1 ∧ s₂.result = 1 then exec .mix s₂ = .next ((receiveStages s).answer b)
        else (receiveStages s).answer b = s₂) := by
  rcases hparse : parse s with ⟨s₁, frameOk⟩
  rcases hfailsafe : failsafe frameOk s₁ with ⟨s₂, sigOk⟩
  have hstages : receiveStages s = if frameOk && sigOk then mix s₂ else s₂ := by
    simp only [receiveStages, hparse, hfailsafe]
  refine ⟨s₁.answer frameOk, s₂.answer sigOk, sigOk, by rw [exec_parse_eq, hparse], ?_, ?_⟩
  · simp only [State.answer_result_eq_one, Bool.decide_eq_true, exec_failsafe_answer, hfailsafe]
  · simp only [State.answer_result_eq_one, hstages, Bool.and_eq_true]
    split
    · exact exec_mix_answer s₂ sigOk
    · rfl

/-- The state in which the motion of an axis begins: after the axes before it (46_control_loop.md R231). -/
def beforeAxis (P : Params) (s : State) : Axis → State
  | .steering => s
  | .throttle => axisStages P .steering s
  | .brake => axisStages P .throttle (axisStages P .steering s)
  | .transmission => axisStages P .brake (axisStages P .throttle (axisStages P .steering s))

/-- No motion of an axis changes which axis the calibration holds. -/
theorem beforeAxis_held (P : Params) (s : State) (a b : Axis) : (beforeAxis P s a).held b = s.held b := by
  cases a <;> simp only [beforeAxis, axisStages_held]

theorem motionStages_eq (P : Params) (s : State) :
    motionStages P s = axisStages P .transmission (beforeAxis P s .transmission) := rfl

theorem axisStages_of_held (P : Params) {a : Axis} {s : State} (hheld : s.held a = true) : axisStages P a s = s :=
  if_pos hheld

theorem axisStages_of_not_held (P : Params) {a : Axis} {s : State} (hfree : s.held a = false) :
    axisStages P a s = stepStage P a (profile P a s) := by
  rw [axisStages, hfree, if_neg Bool.false_ne_true]

/-- The motion of one axis is PROFILE and STEP run by themselves, unless the axis is held. -/
theorem axisStages_runs (s : State) (a : Axis) :
    if s.held a then axisStages Config.params a s = s
    else exec (.profile a) s = .next (profile Config.params a s) ∧
      exec (.step a) (profile Config.params a s) = .next (axisStages Config.params a s) := by
  split
  next hheld => exact axisStages_of_held _ hheld
  next hfree =>
    rw [axisStages_of_not_held _ (Bool.eq_false_of_not_eq_true hfree)]
    exact ⟨rfl, rfl⟩

/-- No stage of a tick reads the bit that an earlier one answered. -/
theorem tick_eq_of_answer (P : Params) (sw1 sw2 : Bool) {s : State} (hrun : s.run = true) (b : Bool) :
    tick P sw1 sw2 s =
      { motionStages P (calStep P sw1 sw2 ((receiveStages s).answer b)) with result := s.result } := by
  rw [State.answer, calStep_result, motionStages_result, ← tick_running P sw1 sw2 hrun, ← tick_result P sw1 sw2 hrun]

/-! ### The outputs of an axis during a pulse -/

/-- The direction and the pulse of an axis are as they were (10_state.md R46). -/
structure AxisState.SameOutput (x y : AxisState) : Prop where
  dir : y.dir = x.dir
  pstart : y.pstart = x.pstart
  pend : y.pend = x.pend

theorem AxisState.SameOutput.refl (x : AxisState) : x.SameOutput x := ⟨rfl, rfl, rfl⟩

section
variable (s : State) (a : Axis)

theorem restarted_sameOutput :
    (s.axis a).SameOutput ((s.axes.map (AxisState.restartVelocityTime s.time)).get a) := by
  rw [PerAxis.get_map]
  exact ⟨rfl, rfl, rfl⟩

theorem enterSafeMode_sameOutput : (s.axis a).SameOutput ((enterSafeMode s).axis a) := by
  rw [enterSafeMode_axis]
  exact ⟨rfl, rfl, rfl⟩

theorem startCalibration_axes : (startCalibration s).axes = s.axes := by
  unfold startCalibration
  split <;> rfl

theorem start_sameOutput (linkOk : Bool) : (s.axis a).SameOutput ((start linkOk s).axis a) := by
  unfold start
  split
  · exact .refl _
  · split
    · exact restarted_sameOutput s a
    · exact .refl _

theorem rxBytes_axes (P : Params) (bs : List Byte) : (rxBytes P bs s).axes = s.axes := by
  rcases rxBytes_cases P bs s with ⟨buf, h⟩ | ⟨-, -, buf, h⟩ <;> rw [h]

end

/-- What an event that comes in by a port leaves of an axis's outputs while a pulse is in flight: a TICK is held then, and no
event but SHUTDOWN and RESET writes them besides (46_control_loop.md R229, 70_reset_and_hazards.md R314). -/
theorem exec_sameOutput_of_busy {i : Instr} {s t : State} (hwf : i.wellFormed = true) (hport : i.format ≠ .internal)
    (hbusy : s.pulseBusy = true) (hreset : i ≠ .reset) (hshutdown : i ≠ .shutdown) (h : exec i s = .next t) (a : Axis) :
    (s.axis a).SameOutput (t.axis a) := by
  have of_axes {u : State} (haxes : u.axes = s.axes) : (s.axis a).SameOutput (u.axis a) := by
    have hsame : u.axis a = s.axis a := congrArg (PerAxis.get · a) haxes
    rw [hsame]
    exact .refl _
  cases i with
  | regRead | nop | clearSticky | reservedCmd => cases h; exact .refl _
  | regWrite addr d linkOk =>
    rw [exec_regWrite_store (by simpa [Instr.wellFormed] using hwf)] at h
    cases h
    exact of_axes (by rw [storeReg_frame])
  | commit => cases h; exact restarted_sameOutput s a
  | enterSafeModeCmd => cases h; exact enterSafeMode_sameOutput s a
  | startCalibration => cases h; exact of_axes (startCalibration_axes s)
  | start linkOk => cases h; exact start_sameOutput s a linkOk
  | shutdown => exact absurd rfl hshutdown
  | frame ch pad ck => cases h; exact of_axes (rxBytes_axes s _ _)
  | rxByte b => cases h; exact of_axes (rxBytes_axes s _ [b])
  | tick sw1 sw2 =>
    rw [exec_tick_of_busy sw1 sw2 hbusy] at h
    cases h
    exact .refl _
  | advance n =>
    rw [exec_advance_of_ne_zero (by simpa [Instr.wellFormed] using hwf)] at h
    cases h
    exact .refl _
  | reset => exact absurd rfl hreset
  | parse | failsafe | mix | calStep | profile | step | emitPulse | enterSafeMode => exact absurd rfl hport

end Sys2Proof.Machine

namespace Sys2Proof.Proofs

open Sys2Proof Sys2Proof.Machine

/-- Settles O47: the receive stages and the motion of each axis are what the stages do when run by themselves, no stage reads
the bit another one answered, and no motion changes which axis is held. -/
theorem tickRunsItsStages : Obligations.TickRunsItsStages := by
  intro s sw1 sw2 hidle hrun
  obtain ⟨s₁, s₂, b, hparse, hfailsafe, hmix⟩ := receiveStages_runs s
  have htick := tick_eq_of_answer Config.params sw1 sw2 hrun b
  generalize hcal : calStep Config.params sw1 sw2 ((receiveStages s).answer b) = s₄ at htick
  refine ⟨s₁, s₂, _, s₄, fun a => profile Config.params a (beforeAxis Config.params s₄ a),
    fun a => axisStages Config.params a (beforeAxis Config.params s₄ a), hparse, hfailsafe, hmix, exec_calStep_of_eq hcal,
    fun a => ?_, ?_⟩
  · have hmotion := axisStages_runs (beforeAxis Config.params s₄ a) a
    rw [beforeAxis_held] at hmotion
    cases a <;> exact hmotion
  · rw [exec_tick_of_idle sw1 sw2 hidle, htick, motionStages_eq]

/-- Settles O58: during the pulse no held TICK is admissible, so the step runs its oldest input, and of the inputs that are
no RESET only a SHUTDOWN writes a direction. -/
theorem directionStableDuringPulse : Obligations.DirectionStableDuringPulse := by
  intro s t a hstep hpulse
  have hbusy : s.pulseBusy = true := s.pulseBusy_iff.mpr ⟨a, hpulse⟩
  rcases step_cases hstep with rfl | ⟨i, s', hexec, ⟨n, hidle, -⟩ | ⟨e, rest, he, hd, rfl⟩⟩
  · exact .inr ⟨rfl, rfl, .inl rfl⟩
  · rw [hbusy] at hidle
    cases hidle
  · by_cases hreset : i = .reset
    · exact .inl ⟨e, rest, he, hreset ▸ hd⟩
    · by_cases hshutdown : i = .shutdown
      · subst hshutdown
        cases hexec
        rw [shutdown_axis]
        exact .inr ⟨rfl, rfl, .inr ⟨e, rest, he, hd⟩⟩
      · obtain ⟨hwf, hport⟩ := decode_wellFormed hd
        obtain ⟨hdir, hpstart, hpend⟩ :=
          exec_sameOutput_of_busy (s := { s with inputs := rest }) hwf hport hbusy hreset hshutdown hexec a
        exact .inr ⟨hpstart, hpend, .inl hdir⟩

/-- Settles O8: the TICK is held, ADVANCE passes it by, and without a pulse it is the next event. -/
theorem heldTickRunsAfterAdvance : Obligations.HeldTickRunsAfterAdvance := by
  intro s sw1 sw2 n rest hbusy hnone hpos hlt hinputs
  have hn : BitVec.ofNat 64 n ≠ 0 := by bv_omega
  have hd : decode (.advance n) = .ok (.advance (BitVec.ofNat 64 n)) := if_pos ⟨hpos, hlt⟩
  let t : State := { s with inputs := .advance n :: rest, heldTicks := 1 }
  refine ⟨t, { t with inputs := rest, time := s.time + BitVec.ofNat 64 n }, ?_, ?_, rfl, fun hidle => ?_⟩
  · rw [step_of_decode_ok (.inl hbusy) hinputs (decode_tick_toNat sw1 sw2),
      exec_tick_of_busy (s := { s with inputs := .advance n :: rest }) sw1 sw2 hbusy]
    simp only [hnone, t]
  · rw [step_of_decode_ok (s := t) (.inl hbusy) rfl hd, exec_advance_of_ne_zero hn]
  · exact step_of_admissible hidle rfl

/-- Settles O45: one axis's pulse makes the block busy. -/
theorem tickHeldDuringPulse : Obligations.TickHeldDuringPulse := fun s sw1 sw2 a hpulse =>
  exec_tick_of_busy sw1 sw2 (s.pulseBusy_iff.mpr ⟨a, hpulse⟩)

/-- Settles O46: the tick is admitted and tests `RUN` before any stage. -/
theorem stoppedTickHasNoEffect : Obligations.StoppedTickHasNoEffect := by
  intro s sw1 sw2 hidle hstopped
  rw [exec_tick_of_idle sw1 sw2 hidle, tick_stopped _ sw1 sw2 hstopped]

/-- Settles O52: the derived outputs are read off the unchanged edges at the new TIME. -/
theorem advanceMovesOnlyTime : Obligations.AdvanceMovesOnlyTime := by
  intro s n hn
  refine ⟨_, exec_advance_of_ne_zero hn s, rfl, BitVec.toNat_add _ _, fun a => AxisState.stepLevel_iff _ _, ?_⟩
  rw [regValue_status_pulseBusy]
  exact State.pulseBusy_iff { s with time := s.time + n }

end Sys2Proof.Proofs
end

section
/-! PROOFS. The host interface (spec/47_host_interface.md): the register that stands at each address and the number it reads as,
the stores, and the commands with the words that select them. -/

namespace Sys2Proof

/-! ### The word that writes a command -/

/-- The opcode is the low byte of the written word (30_encoding.md R100). -/
theorem opcodeOf_eq_ofNat (d : Word) : opcodeOf d = BitVec.ofNat 8 d.toNat := by
  rw [opcodeOf, BitVec.extractLsb', Nat.shiftRight_zero]

theorem opcodeOf_toNat (d : Word) : (opcodeOf d).toNat = d.toNat % 256 := by
  rw [opcodeOf_eq_ofNat, BitVec.toNat_ofNat]

/-- Bits 31:8 of a word written to 0x01 select nothing (30_encoding.md R100). -/
theorem decode_command_write {d : Word} {opc : BitVec 8} (h : d.toNat % 256 = opc.toNat) (l : Bool) :
    decode (.bus (busWord true 0x01 d) l.toNat) = .ok (decodeCommand opc l) := by
  have hopc : opcodeOf d = opc := BitVec.eq_of_toNat_eq ((opcodeOf_toNat d).trans h)
  rw [decode_bus_toNat, decodeBus_busWord, if_pos rfl, if_pos rfl, hopc]

end Sys2Proof

namespace Sys2Proof.Machine

/-! ### The register at an address (20_memory.md R76) -/

/-- The offset of a register in its axis block. -/
def AxisReg.offset : AxisReg → Nat
  | .position => 0
  | .target => 1
  | .velLo => 2
  | .velHi => 3
  | .ivlLo => 4
  | .ivlHi => 5
  | .lstepLo => 6
  | .lstepHi => 7
  | .lvelLo => 8
  | .lvelHi => 9
  | .out => 10

theorem regOf_axis (a : Axis) (r : AxisReg) :
    regOf (BitVec.ofNat 8 (0x40 + r.offset + 16 * axisIndex a)) = .axis a r := by
  cases a <;> cases r <;> rfl

theorem regOf_channel (k : Fin 10) : regOf (BitVec.ofNat 8 (0x10 + k)) = .ch k := by
  have hk : (BitVec.ofNat 8 (0x10 + k)).toNat = 0x10 + k := by
    rw [BitVec.toNat_ofNat]
    omega
  rw [regOf, hk, regAt_channel]

section
variable (a : Axis)

theorem regOf_shSpeed : regOf (BitVec.ofNat 8 (0x20 + 4 * axisIndex a)) = .shSpeed a := by cases a <;> rfl
theorem regOf_shAccel : regOf (BitVec.ofNat 8 (0x21 + 4 * axisIndex a)) = .shAccel a := by cases a <;> rfl
theorem regOf_shLimit : regOf (BitVec.ofNat 8 (0x22 + 4 * axisIndex a)) = .shLimit a := by cases a <;> rfl
theorem regOf_acSpeed : regOf (BitVec.ofNat 8 (0x30 + 4 * axisIndex a)) = .acSpeed a := by cases a <;> rfl
theorem regOf_acAccel : regOf (BitVec.ofNat 8 (0x31 + 4 * axisIndex a)) = .acAccel a := by cases a <;> rfl
theorem regOf_acLimit : regOf (BitVec.ofNat 8 (0x32 + 4 * axisIndex a)) = .acLimit a := by cases a <;> rfl

end

theorem regOf_shFwd : regOf 0x2F = .shFwd := rfl
theorem regOf_acFwd : regOf 0x3F = .acFwd := rfl

/-- The word at an address is the word of the register that stands there (47_host_interface.md R250). -/
theorem regValue_of_regOf {addr : Addr} {r : Reg} (h : regOf addr = r) (s : State) : regValue s addr = regWord s r :=
  congrArg (regWord s) h

/-- A register that shows one field, zero-extended, reads as the field's number (30_encoding.md R105). -/
theorem regValue_toNat_of_field {addr : Addr} {r : Reg} {n : Nat} {x : BitVec n} {s : State} (h : regOf addr = r)
    (hfield : regWord s r = x.setWidth 32) (hn : n ≤ 32) : (regValue s addr).toNat = x.toNat := by
  rw [regValue_of_regOf h, hfield, setWidth32_toNat x hn]

/-! ### The numbers the registers read as (20_memory.md R72) -/

theorem extract_low_toNat {n : Nat} (v : BitVec n) : (v.extractLsb' 0 32).toNat = v.toNat % 2 ^ 32 := by
  rw [BitVec.extractLsb'_toNat, Nat.shiftRight_zero]

theorem extract_high_toNat {n m : Nat} (v : BitVec n) (h : n ≤ 32 + m) :
    (v.extractLsb' 32 m).toNat = v.toNat / 2 ^ 32 := by
  have hlt : v.toNat < 2 ^ 32 * 2 ^ m :=
    calc v.toNat < 2 ^ n := v.isLt
      _ ≤ 2 ^ (32 + m) := Nat.pow_le_pow_right (by decide) h
      _ = 2 ^ 32 * 2 ^ m := Nat.pow_add 2 32 m
  rw [BitVec.extractLsb'_toNat, Nat.shiftRight_eq_div_pow, Nat.mod_eq_of_lt (Nat.div_lt_of_lt_mul hlt)]

/-- `AXa_IVL_HI` as a number: the high bits of the interval below `INF[a]` (10_state.md R42). -/
theorem ivlHiWord_toNat (x : AxisState) :
    (ivlHiWord x).toNat = x.ivl.toNat / 2 ^ 32 + x.inf.toNat * 2 ^ 31 := by
  have hivl : ((x.ivl.extractLsb' 32 16).setWidth 32).toNat = x.ivl.toNat / 2 ^ 32 := by
    rw [setWidth32_toNat _ (by decide), extract_high_toNat _ (by decide)]
  have hinf : ((BitVec.ofBool x.inf).setWidth 32).toNat = x.inf.toNat := by
    rw [setWidth32_toNat _ (by decide), BitVec.toNat_ofBool]
  have hivl_lt : x.ivl.toNat / 2 ^ 32 < 2 ^ 31 := by
    have := x.ivl.isLt
    omega
  have hinf_lt : x.inf.toNat < 2 ^ 1 := x.inf.toNat_lt
  rw [ivlHiWord, flagBit, toNat_or_shiftLeft (hivl ▸ hivl_lt) (hinf ▸ hinf_lt) (by decide), hivl, hinf, Nat.mul_comm]

/-! ### Stores -/

/-- A write to the address of a register other than `CMD` is a store to that register (R251). -/
theorem exec_regWrite_of_regOf {addr : Addr} {r : Reg} (h : regOf addr = r) (hr : r ≠ .cmd) (d : Word) (l : Bool)
    (s : State) : exec (.regWrite addr d l) s = .next (storeReg Config.params r d s) := by
  have hcmd : addr ≠ 0x01 := by
    rintro rfl
    exact hr h.symm
  rw [exec_regWrite_store hcmd, h]

/-- A write that changes the shadow settings of axis `a` by `f` leaves every other axis's, and all else (10_state.md R47). -/
theorem exec_regWrite_of_updShadow {addr : Addr} {r : Reg} {a : Axis} {f : AxisSettings → AxisSettings} {d : Word}
    {s : State} (h : regOf addr = r) (hr : r ≠ .cmd) (hstore : storeReg Config.params r d s = s.updShadow a f) (l : Bool) :
    ∃ t, exec (.regWrite addr d l) s = .next t ∧
      t = { s with shadow := { s.shadow with axes := t.shadow.axes } } ∧
      (∀ b, b ≠ a → t.shadow.axes.get b = s.shadow.axes.get b) ∧
      t.shadow.axes.get a = f (s.shadow.axes.get a) :=
  ⟨s.updShadow a f, by rw [exec_regWrite_of_regOf h hr, hstore], rfl, fun _ hb => PerAxis.get_upd_ne _ _ hb,
    PerAxis.get_upd_same _ _ _⟩

theorem speedField_toNat (d : Word) : (speedField d).toNat = d.toNat % 2 ^ 16 := by
  rw [speedField, BitVec.extractLsb'_toNat, Nat.shiftRight_zero]

theorem limitField_toNat (d : Word) : (limitField d).toNat = d.toNat % 2 ^ 31 := by
  rw [limitField, BitVec.extractLsb'_toNat, Nat.shiftRight_zero]

/-- Only the steering speed has a ceiling (R253). -/
theorem storedSpeed_toNat (P : Params) (a : Axis) (d : Word) :
    (storedSpeed P a d).toNat =
      if a = .steering then min (d.toNat % 2 ^ 16) P.steerSpeedMax.toNat else d.toNat % 2 ^ 16 := by
  rw [storedSpeed, apply_ite BitVec.toNat, steerSpeedField, apply_ite BitVec.toNat, speedField_toNat]
  rfl

/-! ### Commands -/

/-- A command does what the instruction of its opcode does (30_encoding.md R101, R102). -/
theorem exec_decodeCommand (opc : BitVec 8) (l : Bool) (s : State) :
    exec (decodeCommand opc l) s = .next (command opc l s) := by
  unfold decodeCommand command
  generalize opc.toNat = n
  match n with
  | 0 | 1 | 2 | 3 | 4 | 5 | 6 | _ + 7 => rfl

/-- A write to 0x01 runs what the decoder makes of its opcode (R252). -/
theorem exec_regWrite_command (d : Word) (l : Bool) (s : State) :
    exec (.regWrite 0x01 d l) s = exec (decodeCommand (opcodeOf d) l) s :=
  (exec_decodeCommand (opcodeOf d) l s).symm

section
variable (s : State)

theorem start_of_running (hrun : s.run = true) (l : Bool) : start l s = s := if_pos hrun

theorem start_without_link (hstopped : s.run = false) : start false s = { s with linkFail := true } := by
  rw [start, hstopped, if_neg Bool.false_ne_true, if_neg Bool.false_ne_true]

theorem start_with_link (hstopped : s.run = false) :
    start true s = { s with run := true, axes := s.axes.map (AxisState.restartVelocityTime s.time) } := by
  rw [start, hstopped, if_neg Bool.false_ne_true, if_pos rfl]

theorem CalRes.abort_eq (r : CalRes) : r.abort = if r = .inProgress then .fail else r := by cases r <;> rfl

/-- SHUTDOWN while a calibration runs (R261). -/
theorem shutdown_of_calibrating (hcal : s.calActive = true) :
    shutdown s =
      { s with
        run := false, axes := s.axes.map neutralAxis, calActive := false, calPhase := .idle, calCount := 0
        calResThrottle := s.calResThrottle.abort, calResBrake := s.calResBrake.abort } := if_pos hcal

/-- SHUTDOWN while no calibration runs (R261). -/
theorem shutdown_of_not_calibrating (hcal : s.calActive = false) :
    shutdown s = { s with run := false, axes := s.axes.map neutralAxis } := by
  rw [shutdown, abortCalibration, if_neg (by rw [hcal]; exact Bool.false_ne_true)]

@[simp] theorem shutdown_axes : (shutdown s).axes = s.axes.map neutralAxis := by rw [shutdown_frame]
@[simp] theorem shutdown_calActive : (shutdown s).calActive = false := by
  cases hcal : s.calActive with
  | true => rw [shutdown_of_calibrating s hcal]
  | false => rw [shutdown_of_not_calibrating s hcal, hcal]

end

end Sys2Proof.Machine

namespace Sys2Proof.Proofs

open Sys2Proof Sys2Proof.Machine

/-- Settles O13: each address leads to its register, and each field reads as its number. -/
theorem registerMapReads : Obligations.RegisterMapReads := by
  intro s
  have axisWord (a : Axis) (r : AxisReg) := regValue_of_regOf (regOf_axis a r) s
  have axisNumber (a : Axis) (r : AxisReg) := congrArg BitVec.toNat (axisWord a r)
  refine ⟨fun _ => rfl, rfl, rfl, ?rxLevel, rfl, rfl, rfl, extract_low_toNat _, extract_high_toNat _ (by decide), rfl,
    fun k => regValue_toNat_of_field (regOf_channel k) rfl (by decide), fun a => ?perAxis,
    regValue_toNat_of_field regOf_shFwd rfl (by decide), regValue_toNat_of_field regOf_acFwd rfl (by decide)⟩
  case rxLevel => exact (setWidth32_toNat _ (by decide)).trans (BitVec.toNat_ofNat _ _)
  case perAxis =>
    refine ⟨regValue_toNat_of_field (regOf_shSpeed a) rfl (by decide), regValue_of_regOf (regOf_shAccel a) s,
      regValue_toNat_of_field (regOf_shLimit a) rfl (by decide), regValue_toNat_of_field (regOf_acSpeed a) rfl (by decide),
      regValue_of_regOf (regOf_acAccel a) s, regValue_toNat_of_field (regOf_acLimit a) rfl (by decide),
      axisWord a .position, axisWord a .target, ?velLo, ?velHi, ?ivlLo, ?ivlHi, ?lstepLo, ?lstepHi, ?lvelLo, ?lvelHi⟩
    case velLo => exact (axisNumber a .velLo).trans (extract_low_toNat _)
    case velHi =>
      exact (axisNumber a .velHi).trans ((setWidth32_toNat _ (by decide)).trans (extract_high_toNat _ (by decide)))
    case ivlLo => exact (axisNumber a .ivlLo).trans (extract_low_toNat _)
    case ivlHi => exact (axisNumber a .ivlHi).trans (ivlHiWord_toNat _)
    case lstepLo => exact (axisNumber a .lstepLo).trans (extract_low_toNat _)
    case lstepHi => exact (axisNumber a .lstepHi).trans (extract_high_toNat _ (by decide))
    case lvelLo => exact (axisNumber a .lvelLo).trans (extract_low_toNat _)
    case lvelHi => exact (axisNumber a .lvelHi).trans (extract_high_toNat _ (by decide))

/-- Settles O16: three fields of an axis's shadow settings, each a change of that axis alone, and the forward limit. -/
theorem shadowWritesStore : Obligations.ShadowWritesStore := by
  intro s a d l
  refine ⟨?speed, exec_regWrite_of_updShadow (regOf_shAccel a) nofun rfl l, ?limit, ?forward⟩
  case speed =>
    obtain ⟨t, hexec, hframe, hothers, hsame⟩ := exec_regWrite_of_updShadow (s := s) (regOf_shSpeed a) nofun rfl l
    exact ⟨t, hexec, hframe, hothers, by rw [hsame], by rw [hsame, storedSpeed_toNat]⟩
  case limit =>
    obtain ⟨t, hexec, hframe, hothers, hsame⟩ := exec_regWrite_of_updShadow (s := s) (regOf_shLimit a) nofun rfl l
    exact ⟨t, hexec, hframe, hothers, by rw [hsame], by rw [hsame, limitField_toNat]⟩
  case forward => exact ⟨_, exec_regWrite_of_regOf regOf_shFwd nofun d l s, rfl, limitField_toNat d⟩

/-- Settles O18: the write runs what its opcode decodes to. -/
theorem commandWriteDispatch : Obligations.CommandWriteDispatch := by
  intro s d l
  have hreserved : BitVec.ofNat 8 (d.toNat % 256) = BitVec.ofNat 8 d.toNat := by
    rw [← opcodeOf_toNat, BitVec.ofNat_toNat, BitVec.setWidth_eq, opcodeOf_eq_ofNat]
  rw [exec_regWrite_command, decodeCommand_eq, opcodeOf_toNat, hreserved]
  simp only [apply_ite (exec · s)]

/-- Settles O19: opcode 0x00 decodes to the meaning that keeps the state. -/
theorem nopHasNoEffect : Obligations.NopHasNoEffect :=
  ⟨fun _ l hopc => decode_command_write (opc := 0x00) hopc l, fun _ => rfl⟩

/-- Settles O20: COMMIT restarts the velocity time of each axis beside the copy of the record. -/
theorem commitReplacesSettings : Obligations.CommitReplacesSettings :=
  ⟨fun _ l hopc => decode_command_write (opc := 0x01) hopc l, fun s => ⟨commit s, rfl, rfl, commit_axis s⟩⟩

/-- Settles O23: the statement is the two branches of the meaning. -/
theorem startCalibrationTakesSequencer : Obligations.StartCalibrationTakesSequencer := fun _ => rfl

/-- Settles O24: opcode 0x04 decodes to the meaning that clears the three flags. -/
theorem clearStickyClearsFlags : Obligations.ClearStickyClearsFlags :=
  ⟨fun _ l hopc => decode_command_write (opc := 0x04) hopc l, fun _ => rfl⟩

/-- Settles O25: every opcode from 0x07 on decodes to the reserved command. -/
theorem reservedCommandSetsBadCmd : Obligations.ReservedCommandSetsBadCmd := by
  refine ⟨fun d l hopc => ?_, fun _ _ _ => rfl⟩
  rw [decode_command_write (opcodeOf_toNat d).symm, decodeCommand_reserved (by rwa [opcodeOf_toNat]), opcodeOf_eq_ofNat]

/-- Settles O26: the three branches of START. -/
theorem startNeedsTransport : Obligations.StartNeedsTransport := fun s =>
  ⟨fun hrun l => congrArg Host.Outcome.next (start_of_running s hrun l),
    fun hstopped => congrArg Host.Outcome.next (start_without_link s hstopped),
    fun hstopped => ⟨_, congrArg Host.Outcome.next (start_with_link s hstopped), rfl, fun _ => PerAxis.get_map _ _ _⟩⟩

/-- Settles O27: SHUTDOWN makes each axis neutral, which keeps its pulse, and aborts a calibration where one runs. -/
theorem shutdownLeavesOutputsNeutral : Obligations.ShutdownLeavesOutputsNeutral := by
  refine ⟨fun _ l hopc => decode_command_write (opc := 0x06) hopc l, fun s => ⟨shutdown s, rfl, ?frame, fun a => ?axis,
    fun a => ?strobe, fun hcal => ?aborted, fun hcal => ?idle⟩⟩
  case frame =>
    have hframe := shutdown_frame s
    rw [shutdown_calActive] at hframe
    rw [shutdown_axes]
    exact hframe
  case axis => exact shutdown_axis s a
  case strobe =>
    rw [shutdown_axis, shutdown_time]
    rfl
  case aborted =>
    rw [shutdown_of_calibrating s hcal]
    exact ⟨rfl, rfl, CalRes.abort_eq _, CalRes.abort_eq _⟩
  case idle =>
    rw [shutdown_of_not_calibrating s hcal]
    exact ⟨rfl, rfl, rfl, rfl⟩

end Sys2Proof.Proofs
end

section
/-! PROOFS. RESET (spec/70_reset_and_hazards.md R301, R302): the state it leaves, and what every register reads then. -/

namespace Sys2Proof.Machine

/-! ### The state RESET leaves -/

@[simp] theorem State.reset_axis (a : Axis) : State.reset.axis a = AxisState.reset := by cases a <;> rfl

theorem Settings.reset_axes (a : Axis) : Settings.reset.axes.get a = ⟨0, 0, 0⟩ := by cases a <;> rfl

theorem State.reset_ch (k : Fin 10) : State.reset.ch[k] = 0 := by
  revert k
  decide

/-- RESET leaves the reset state but for the model's own fields (log 1, 4, 6). -/
theorem exec_reset (s : State) :
    exec .reset s =
      .next { State.reset with inputs := s.inputs, switchSamples := s.switchSamples, result := s.result } := rfl

/-! ### The registers after RESET -/

/-- The word of each register after RESET: only `ID` and the interval registers' infinity flag are not 0. -/
def resetWord : Reg → Word
  | .id => 0x54484731
  | .axis _ .ivlHi => 0x80000000
  | _ => 0

theorem axisRegValue_reset (a : Axis) (r : AxisReg) : axisRegValue State.reset a r = resetWord (.axis a r) := by
  cases a <;> cases r <;> rfl

theorem regWord_reset (r : Reg) : regWord State.reset r = resetWord r := by
  cases r with
  | ch k => exact congrArg (BitVec.setWidth 32) (State.reset_ch k)
  | shSpeed a | shAccel a | shLimit a | acSpeed a | acAccel a | acLimit a => cases a <;> rfl
  | axis a r => exact axisRegValue_reset a r
  | _ => rfl

/-- No register shows the model's own fields. -/
theorem regWord_own_fields (s : State) (inputs : List Input) (n : Nat) (w : Word) (r : Reg) :
    regWord { s with inputs := inputs, switchSamples := n, result := w } r = regWord s r := by
  cases r with
  | axis a r => cases r <;> rfl
  | _ => rfl

set_option maxRecDepth 20000 in
/-- Which addresses read a word other than 0 after RESET (95_test_vectors.md V-Z1). -/
theorem resetWord_regOf : ∀ addr : Addr,
    resetWord (regOf addr) =
      if addr = 0x00 then 0x54484731
      else if addr = 0x45 ∨ addr = 0x55 ∨ addr = 0x65 ∨ addr = 0x75 then 0x80000000
      else 0 := by decide

end Sys2Proof.Machine

namespace Sys2Proof.Proofs

open Sys2Proof Sys2Proof.Machine

/-- Settles O11: each element of the reset state, and a low output of an axis whose pulse ends at TIME 0. -/
theorem resetRestoresEveryElement : Obligations.ResetRestoresEveryElement := by
  intro s
  refine ⟨_, exec_reset s, rfl, rfl, rfl, rfl, rfl, rfl, rfl, rfl, rfl, rfl, rfl, State.reset_ch, fun a => ?axis,
    fun a => ⟨Settings.reset_axes a, Settings.reset_axes a⟩, rfl, rfl, rfl, rfl, rfl, rfl, rfl, rfl, rfl, rfl, rfl⟩
  case axis => cases a <;> exact ⟨rfl, rfl, rfl, rfl, rfl, rfl, rfl, rfl, rfl, rfl, rfl⟩

/-- Settles O12: the register's word at reset, at each of the 256 addresses. -/
theorem registersReadAfterReset : Obligations.RegistersReadAfterReset := by
  intro s t hreset a
  have ht : { State.reset with inputs := s.inputs, switchSamples := s.switchSamples, result := s.result } = t :=
    Host.Outcome.next.inj hreset
  have hword : regValue t a = resetWord (regOf a) := by
    rw [regValue, ← ht, regWord_own_fields, regWord_reset]
  rw [← resetWord_regOf a, ← hword]
  rfl

/-- Settles O54: at reset every axis rests and the sequencer is idle. -/
theorem resetMeetsInvariant : Obligations.ResetMeetsInvariant := State.reset_inv Config.params

end Sys2Proof.Proofs
end
